-- ==== Sys2Proof/Word.lean ====
section
/-! DEFINITION. The word types: the block moves bytes and keeps two 16-bit accumulators (R11, R24). -/

namespace Sys2Proof

/-- A byte: 8 bits, bit 0 the least significant (R11). -/
abbrev Byte := BitVec 8

/-- The width `ACC_W` = 16 of the accumulators (R10, R24). -/
abbrev Half := BitVec 16

/-- A packet buffer index: `PACKET_SIZE` = 3 slots (R10, R21), so an index is never out of range. -/
abbrev Slot := Fin 3

end Sys2Proof
end

