-- ==== Sys2Proof/Syntax.lean ====
section
/-! DEFINITION. The operations of spec/opcode_table.json (R85), the step labels of the hard-wired sequences (R28), and the
small vocabularies the operations speak: directions, ports, modes, events. -/

namespace Sys2Proof

/-- Direction of a wait (R15, R26): `SEND` waits for the input buffer to be empty, `RECV` for the output buffer to be full. -/
inductive Dir where
  | send
  | recv
  deriving DecidableEq, Repr, Inhabited

/-- The two ports the block masters (R50). -/
inductive Port where
  | ctrl
  | data
  deriving DecidableEq, Repr, Inhabited

/-- The lifecycle modes (R27). -/
inductive Mode where
  | off
  | init
  | armed
  | service
  deriving DecidableEq, Repr, Inhabited

/-- The step labels of R28, under the spec's own names. -/
inductive Label where
  | I0 | I1a | I1b | I2a | I2b | I2c | I2d | I3 | I4a | I4b | I4c | I4d | I5 | I6 | I7 | I8
  | S1 | S2 | S3 | S4 | S5 | S6
  | A1
  | H1 | H2 | H3 | H4 | H5 | H6 | H7
  deriving DecidableEq, Repr, Inhabited

/-- The decoded event record (R79, R175): three booleans and two integers in -255 to 255. -/
structure Event where
  left : Bool
  right : Bool
  middle : Bool
  dx : Int
  dy : Int
  deriving DecidableEq, Repr, Inhabited

/-- The operations of R85, one constructor per row of the operation table. -/
inductive Instr where
  /-- RESET, request 100 (R220). -/
  | reset
  /-- INIT, request 010 (R131). -/
  | init
  /-- HANDLE_IRQ, request 001 (R152). -/
  | handleIrq
  /-- STATUS_READ (R100). -/
  | statusRead
  /-- CTRL_WRITE v (R101). -/
  | ctrlWrite (v : Byte)
  /-- DATA_WRITE v (R102). -/
  | dataWrite (v : Byte)
  /-- DATA_READ (R103). -/
  | dataRead
  /-- AWAIT_READY d (R104). -/
  | awaitReady (d : Dir)
  /-- SEND_DEVICE_COMMAND c (R110). -/
  | sendDeviceCommand (c : Byte)
  /-- AUX_ENABLE, controller command 0xA8 (R106). -/
  | auxEnable
  /-- CFG_READ, controller command 0x20 (R107). -/
  | cfgRead
  /-- CFG_WRITE, controller command 0x60 (R108). -/
  | cfgWrite
  /-- AUX_ROUTE, controller command 0xD4 (R109). -/
  | auxRoute
  /-- DEV_SET_DEFAULTS, device command 0xF6 (R111). -/
  | devSetDefaults
  /-- DEV_ENABLE_STREAM, device command 0xF4 (R112). -/
  | devEnableStream
  /-- ACK, device response 0xFA, consumed at step `S6` (R113). -/
  | ack
  /-- ZERO_STATE (R132). -/
  | zeroState
  /-- ENABLE_IRQ_LINE (R139). -/
  | enableIrqLine
  /-- STORE_BYTE (R156). -/
  | storeByte
  /-- DECODE (R170). -/
  | decode
  /-- EMIT (R175). -/
  | emit
  /-- ACC_UPDATE (R176). -/
  | accUpdate
  deriving DecidableEq, Repr, Inhabited

end Sys2Proof
end

