-- ==== Sys2Proof/Config.lean ====
section
/-! DEFINITION. The parameters of R10, and the free values: what the spec leaves open, as constants with no body. -/

namespace Sys2Proof.Config

/-- How a delta enters an accumulator, `ACC_MODE` (R10, R176). -/
inductive AccMode where
  | add
  | assign
  | dead
  deriving DecidableEq, Repr, Inhabited

/-- The rows of R10 of kind "parameter".
The rows of kind "fixed" are hard-wired in the model: `PACKET_SIZE` 3, `ACK` 0xFA, `ACC_W` 16, `DELTA_W` 9, no `ACK_BOUND`,
`SPURIOUS_CHECK` true. -/
structure Params where
  /-- `POLL_BOUND`: the most status reads of one AWAIT_READY. -/
  pollBound : Nat
  /-- `ACC_MODE`. -/
  accMode : AccMode
  /-- `CNT_W`: `none` is the spec's ∞, `some w` a counter of `w` bits. -/
  cntW : Option Nat
  /-- `CTRL_PORT`: where commands are written and the status is read. -/
  ctrlPort : Nat
  /-- `DATA_PORT`: where data bytes go both ways. -/
  dataPort : Nat
  /-- `IRQ_INDEX`: the redirection index of the mouse line. -/
  irqIndex : Nat
  /-- `IRQ_TARGET`: the target of the line. -/
  irqTarget : Nat
  deriving DecidableEq, Repr, Inhabited

/-- R10's defaults.
PRESUMED: the port addresses and the index are the spec's own "[from general knowledge, not in source]" values (log entry 2). -/
def defaults : Params where
  pollBound := 100000
  accMode := .add
  cntW := none
  ctrlPort := 0x64
  dataPort := 0x60
  irqIndex := 12
  irqTarget := 0

/-- A free byte: a port answer no script gives (R56), or a register RESET leaves unspecified (R220).
Nothing constrains it (log entries 4 to 6). -/
opaque freeByte : Nat → Byte

/-- A free accumulator value, for RESET (R220; log entry 4). -/
opaque freeHalf : Nat → Half

/-- A free count, for RESET (R220; log entry 4). -/
opaque freeCount : Nat → Nat

/-- A free sequencer position, for RESET (R220; log entry 4). -/
opaque freeLabel : Nat → Label

/-- A free direction, for RESET (R220; log entry 4). -/
opaque freeDir : Nat → Dir

/-- A free decoded packet, for RESET (R220; log entry 4). -/
opaque freeEvent : Nat → Event

/-- A free choice between two outstanding requests (R198; log entry 7). -/
opaque freeChoice : Nat → Bool

end Sys2Proof.Config
end

