-- ==== Sys2Proof/WellFormed.lean ====
section
/-! DEFINITION. Which operands the block's own sequences can give an operation, and which parameters R52 allows. -/

namespace Sys2Proof

/-- The bytes R71 lets the block write to `CTRL_PORT` (R101). -/
def controllerCommands : List Byte := [0xA8, 0x20, 0x60, 0xD4]

/-- The device commands of R72 (R110). -/
def deviceCommands : List Byte := [0xF6, 0xF4]

/-- The operand checks: CTRL_WRITE takes a controller command (R101), SEND_DEVICE_COMMAND a device command (R81, R84),
DATA_WRITE a device command or a configuration byte with `AUX_INT_EN` set (R58, R102). -/
def Instr.wf : Instr → Bool
  | .ctrlWrite v => decide (v ∈ controllerCommands)
  | .dataWrite v => v.getLsbD 1 || decide (v ∈ deviceCommands)
  | .sendDeviceCommand c => decide (c ∈ deviceCommands)
  | .reset | .init | .handleIrq | .statusRead | .dataRead | .awaitReady _ => true
  | .auxEnable | .cfgRead | .cfgWrite | .auxRoute | .devSetDefaults | .devEnableStream | .ack => true
  | .zeroState | .enableIrqLine | .storeByte | .decode | .emit | .accUpdate => true

/-- "The only thing a rule relies on is `CTRL_PORT ≠ DATA_PORT`" (R52). -/
def Config.Params.wf (p : Config.Params) : Bool := decide (p.ctrlPort ≠ p.dataPort)

end Sys2Proof
end

