-- ==== Sys2Proof/Decode.lean ====
section
/-! DEFINITION. The decoder of the encoded operations (R70 to R73, R82, R88), total on any bytes, and the encoder after it.
Micro-operations and internal steps have no encoding (R83): no byte decodes to one and `encode` answers none. -/

namespace Sys2Proof

/-- The formats of R70 that carry a match and a mask or a request vector. -/
inductive Format where
  | req
  | cmd8
  | dev8
  | rsp8
  deriving DecidableEq, Repr

/-- A row of the operation table: `pattern` and `mask` are its match and mask. -/
structure Row where
  format : Format
  pattern : Byte
  mask : Byte
  instr : Instr
  deriving DecidableEq, Repr

/-- Why bytes are no operation. -/
inductive DecodeError where
  /-- There is no byte to decode. -/
  | noByte
  /-- The byte is no request vector, command or response of the table (R84). -/
  | notAnOperation (b : Byte)
  deriving DecidableEq, Repr

/-- The request vectors `{reset_req, init_req, irq}` of R82, in the low three bits of a byte (log entry 18). -/
def requestRows : List Row :=
  [⟨.req, 0b100, 0xFF, .reset⟩, ⟨.req, 0b010, 0xFF, .init⟩, ⟨.req, 0b001, 0xFF, .handleIrq⟩]

/-- The controller commands of R71. -/
def controllerRows : List Row :=
  [⟨.cmd8, 0xA8, 0xFF, .auxEnable⟩, ⟨.cmd8, 0x20, 0xFF, .cfgRead⟩,
   ⟨.cmd8, 0x60, 0xFF, .cfgWrite⟩, ⟨.cmd8, 0xD4, 0xFF, .auxRoute⟩]

/-- The device commands of R72 and the one response of R73. -/
def deviceRows : List Row :=
  [⟨.dev8, 0xF6, 0xFF, .devSetDefaults⟩, ⟨.dev8, 0xF4, 0xFF, .devEnableStream⟩, ⟨.rsp8, 0xFA, 0xFF, .ack⟩]

/-- Every encoded row of the operation table. -/
def opcodeRows : List Row := requestRows ++ controllerRows ++ deviceRows

/-- A row matches a byte when they agree on the masked bits. -/
def Row.hits (r : Row) (b : Byte) : Bool := b &&& r.mask == r.pattern

/-- No byte matches both rows. -/
def Row.apart (r q : Row) : Bool := !(r.pattern &&& q.mask == q.pattern &&& r.mask)

/-- The first row that matches. -/
def findRow (b : Byte) : List Row → Option Row
  | [] => none
  | r :: rs => if r.hits b then some r else findRow b rs

/-- The operation that a byte encodes in one format. -/
def decodeAs (f : Format) (b : Byte) : Except DecodeError Instr :=
  match findRow b (opcodeRows.filter fun r => decide (r.format = f)) with
  | some r => .ok r.instr
  | none => .error (.notAnOperation b)

/-- The operation that the first byte encodes, in whichever format it is, and the bytes after it. -/
def decode : List Byte → Except DecodeError (Instr × List Byte)
  | [] => .error .noByte
  | b :: rest =>
    match findRow b opcodeRows with
    | some r => .ok (r.instr, rest)
    | none => .error (.notAnOperation b)

/-- The bytes `w` holds, the first in its low bits. -/
def bytesOf : Nat → Nat → List Byte
  | 0, _ => []
  | n + 1, w => BitVec.ofNat 8 w :: bytesOf n (w / 256)

/-- The decoder on a word numbered as the operation table numbers it. -/
def decodeTableWord (nbits w : Nat) : Option Instr :=
  match decode (bytesOf ((nbits + 7) / 8) w) with
  | .ok (i, _) => some i
  | .error _ => none

/-- The bytes of an operation: the constants of R71 to R73 and R82, none for the operations of R83. -/
def encode : Instr → Option (List Byte)
  | .reset => some [0x04]
  | .init => some [0x02]
  | .handleIrq => some [0x01]
  | .auxEnable => some [0xA8]
  | .cfgRead => some [0x20]
  | .cfgWrite => some [0x60]
  | .auxRoute => some [0xD4]
  | .devSetDefaults => some [0xF6]
  | .devEnableStream => some [0xF4]
  | .ack => some [0xFA]
  | .statusRead | .ctrlWrite _ | .dataWrite _ | .dataRead | .awaitReady _ | .sendDeviceCommand _ => none
  | .zeroState | .enableIrqLine | .storeByte | .decode | .emit | .accUpdate => none

end Sys2Proof
end

