-- ==== Sys2Proof/Machine/State.lean ====
section
/-! DEFINITION. The state of the block, of the request lines and of the recorded outputs, as plain data; the reasons a step can
stop; the state after reset. -/

namespace Sys2Proof.Machine

open Sys2Proof.Config

/-- The packet buffer as data: cells of slot number and byte, slots strictly rising, none equal to `Memory.unlisted`
(log entry 14). -/
abbrev Memory := List Host.Cell

/-- What an unlisted slot reads as: 0x00, the value step `I0` gives every slot (R36).
DESIGN CHOICE before the first INIT, where the spec gives none (log entry 14). -/
def Memory.unlisted : Byte := 0x00

/-- The canonical form: slots strictly rising and below 3, no cell equal to what an unlisted slot reads as. -/
def Memory.wf : Memory → Bool
  | [] => true
  | (a, v) :: rest =>
    decide (a < 3) && !(v == Memory.unlisted) && rest.all (fun c => decide (a < c.1)) && Memory.wf rest

/-- One record of the contractual trace (R13): a port access with its byte, an `EnableIrq` call, or an event. -/
inductive Obs where
  | read (addr : Nat) (v : Byte)
  | write (addr : Nat) (v : Byte)
  | enableIrq (index target : Nat)
  | emit (e : Event)
  deriving DecidableEq, Repr

/-- One record of the diagnostic output (R206). -/
inductive Diag where
  | pollTimeout (d : Dir)
  deriving DecidableEq, Repr

/-- One move of one agent (R7, R243).
`foreignAccess` and `nestedHandler` are the two moves R243 assumes never to happen (log entry 16). -/
inductive Move where
  /-- The block takes its next step. -/
  | block
  /-- The host raises `reset_req`. -/
  | raiseReset
  /-- The host raises `init_req`. -/
  | raiseInit
  /-- The platform delivers an `irq` notification. -/
  | deliverIrq
  /-- The platform drops the notification it holds. -/
  | dropIrq
  /-- Another master accesses a port. -/
  | foreignAccess
  /-- The platform starts a second handler invocation inside a running one. -/
  | nestedHandler
  deriving DecidableEq, Repr

/-- The machine. -/
structure State where
  /-- The parameters of R10, which no step changes (log entry 1). -/
  params : Params
  /-- `packet_buffer` (R21). -/
  packetBuffer : Memory
  /-- `bytes_received` (R22). -/
  bytesReceived : Nat
  /-- `cumulative_x` (R24). -/
  cumulativeX : Half
  /-- `cumulative_y` (R24). -/
  cumulativeY : Half
  /-- `mode` (R27). -/
  mode : Mode
  /-- `seq`: the next step of the current operation (R26). -/
  seq : Label
  /-- `ret` at the level of AWAIT_READY (R26). -/
  retAwait : Label
  /-- `ret` at the level of SEND_DEVICE_COMMAND (R26). -/
  retSend : Label
  /-- `poll_n`: status reads made so far in the current wait (R26). -/
  pollN : Nat
  /-- `dir`: direction of the current wait (R26). -/
  dir : Dir
  /-- `S`: the last status byte read (R26). -/
  statusReg : Byte
  /-- `B`: the last data byte read (R26). -/
  dataReg : Byte
  /-- `CFG`: the configuration byte (R26). -/
  cfg : Byte
  /-- `CMD`: the device command being sent (R26). -/
  cmd : Byte
  /-- The decoded packet between DECODE and ACC_UPDATE (R170; log entry 13). -/
  packet : Event
  /-- `reset_req` is outstanding (R9). -/
  resetReq : Bool
  /-- `init_req` is outstanding (R9). -/
  initReq : Bool
  /-- An `irq` notification is outstanding, held by the platform (R199). -/
  irqReq : Bool
  /-- The agents' moves to come; where it is empty the block moves (log entry 8). -/
  schedule : List Move
  /-- The choices to come between `irq` (true) and `init_req` (false); then free (R198; log entry 7). -/
  arbiter : List Bool
  /-- The environment's answers to the next status reads; then free (R56; log entry 5). -/
  statusAnswers : List Byte
  /-- The environment's answers to the next data reads; then free (R56; log entry 5). -/
  dataAnswers : List Byte
  /-- How many free values have been drawn (log entry 6). -/
  draws : Nat
  /-- The contractual trace, oldest first (R13). -/
  trace : List Obs
  /-- The diagnostic output, oldest first (R206). -/
  diags : List Diag
  deriving DecidableEq, Repr

/-- Reasons to stop with a fault: none.
The block "raises no synchronous exception", "has no trap mechanism of its own" and "has no illegal operation" (R190;
log entry 17). -/
inductive Fault where
  deriving DecidableEq, Repr

/-- Reasons a step is given no meaning. -/
inductive Refusal where
  /-- Raised by `exec` for an operation without a meaning yet; no operation is left so.  Safe. -/
  | notModelled (mnemonic : String)
  /-- Raised by `outsideMove` when another master accesses a port while `mode` is `INIT` or `SERVICE`: "not given a meaning"
  (R63, U9).  Safe: the run stops where the hardware goes on. -/
  | foreignMaster
  /-- Raised by `outsideMove` when a second handler invocation starts while `mode` is `INIT` or `SERVICE`: "the spec gives
  such a run no meaning" (R200, U10).  Safe: the run stops where the hardware goes on. -/
  | nestedHandler
  deriving DecidableEq, Repr

/-- The machine right after reset: `mode = OFF` (R36).
DESIGN CHOICE: every register the spec leaves without a value holds zero or the first name of its type (log entry 3); no
request is outstanding, no move or answer is scripted, nothing is recorded. -/
def State.reset : State where
  params := defaults
  packetBuffer := []
  bytesReceived := 0
  cumulativeX := 0
  cumulativeY := 0
  mode := .off
  seq := .I0
  retAwait := .I0
  retSend := .I0
  pollN := 0
  dir := .send
  statusReg := 0
  dataReg := 0
  cfg := 0
  cmd := 0
  packet := ⟨false, false, false, 0, 0⟩
  resetReq := false
  initReq := false
  irqReq := false
  schedule := []
  arbiter := []
  statusAnswers := []
  dataAnswers := []
  draws := 0
  trace := []
  diags := []

end Sys2Proof.Machine
end

