-- ==== Sys2Proof/Machine/Flags.lean ====
section
/-! DEFINITION. The conditions the block tests.
It stores no flag: each is "computed on the spot and forgotten" (R30). -/

namespace Sys2Proof.Machine

/-- `OBF`, status bit 0: output buffer full (R31, R75). -/
def outputFull (s : Byte) : Bool := s.getLsbD 0

/-- `IBF`, status bit 1: input buffer full (R31, R75). -/
def inputFull (s : Byte) : Bool := s.getLsbD 1

/-- The condition that ends a wait: `S[1] = 0` for `SEND`, `S[0] = 1` for `RECV`, no other bit (R104, R105). -/
def waitMet : Dir → Byte → Bool
  | .send, s => !inputFull s
  | .recv, s => outputFull s

/-- The acknowledgement byte `ACK` (R73). -/
def ackByte : Byte := 0xFA

/-- `B = 0xFA` on all eight bits (R73, R113). -/
def isAck (b : Byte) : Bool := b == ackByte

/-- The framing phase of a count: `bytes_received mod 3` (R23). -/
def phaseOf (n : Nat) : Slot := ⟨n % 3, Nat.mod_lt n (by decide)⟩

/-- A packet completes when the count is a multiple of 3 (R158). -/
def packetComplete (n : Nat) : Bool := n % 3 == 0

/-- `OFF` and `ARMED` are quiescent (R201). -/
def isQuiescent : Mode → Bool
  | .off | .armed => true
  | .init | .service => false

end Sys2Proof.Machine
end

