-- ==== Sys2Proof/Machine/Operands.lean ====
section
/-! DEFINITION. The assembled operands (R80, R81): the configuration byte to write, the event of a packet, the counter's
next value, an accumulator's next value. -/

namespace Sys2Proof.Machine

open Sys2Proof.Config

/-- `AUX_INT_EN`, the "enable auxiliary interrupt" bit (R32, R76). -/
def auxIntEn : Byte := 0x02

/-- The configuration byte with `AUX_INT_EN` set and the other bits as read (R76, R135). -/
def withAuxInterrupt (c : Byte) : Byte := c ||| auxIntEn

/-- The true delta: the unsigned magnitude, negated if the sign bit is set (R80, R172, R173). -/
def delta (negative : Bool) (magnitude : Byte) : Int :=
  if negative then -(magnitude.toNat : Int) else magnitude.toNat

/-- R80's 9-bit carrier: `(s = 1 and m ≠ 0) ? (512 - m) : m`. -/
def deltaCarrier (negative : Bool) (magnitude : Byte) : BitVec 9 :=
  if negative && !(magnitude == 0) then BitVec.ofNat 9 (512 - magnitude.toNat) else BitVec.ofNat 9 magnitude.toNat

/-- The event of a packet: buttons from flags bits 0, 1, 2, signs from bits 4 and 5, bits 3, 6 and 7 ignored
(R77, R170 to R174). -/
def eventOf (flags xMagnitude yMagnitude : Byte) : Event where
  left := flags.getLsbD 0
  right := flags.getLsbD 1
  middle := flags.getLsbD 2
  dx := delta (flags.getLsbD 4) xMagnitude
  dy := delta (flags.getLsbD 5) yMagnitude

/-- A count cut to `CNT_W` bits; at ∞ it stays what it is (R22). -/
def countIn (w : Option Nat) (n : Nat) : Nat :=
  match w with
  | none => n
  | some k => n % 2 ^ k

/-- The count after one more byte (R157, R177). -/
def nextCount (w : Option Nat) (n : Nat) : Nat := countIn w (n + 1)

/-- An accumulator after a delta, by `ACC_MODE`: addition modulo 2^16 of the delta in 16-bit two's complement, the delta
alone, or no change (R176). -/
def accumulate (m : AccMode) (acc : Half) (d : Int) : Half :=
  match m with
  | .add => acc + BitVec.ofInt 16 d
  | .assign => BitVec.ofInt 16 d
  | .dead => acc

end Sys2Proof.Machine
end

