-- ==== Sys2Proof/Machine/Ops.lean ====
section
/-! DEFINITION. The named operations over the packet buffer, the ports, the outputs and the sequencer that the meanings share;
entry into and return from the interrupt service, and RESET's loss of every register. -/

namespace Sys2Proof.Machine

open Sys2Proof.Config

/-! ## Packet buffer (R55) -/

/-- The byte at an address of a cell list. -/
def Memory.readAt : Memory → Nat → Byte
  | [], _ => Memory.unlisted
  | (b, v) :: rest, a => if a = b then v else Memory.readAt rest a

/-- Put a byte at an address; the byte an unlisted cell reads as is stored by listing no cell. -/
def Memory.writeAt : Memory → Nat → Byte → Memory
  | [], a, v => if v = Memory.unlisted then [] else [(a, v)]
  | (b, w) :: rest, a, v =>
    if a < b then (if v = Memory.unlisted then (b, w) :: rest else (a, v) :: (b, w) :: rest)
    else if a = b then (if v = Memory.unlisted then rest else (a, v) :: rest)
    else (b, w) :: Memory.writeAt rest a v

/-- `PB[i]`. -/
def Memory.read (m : Memory) (i : Slot) : Byte := m.readAt i.val

/-- `PB[i] <- v`. -/
def Memory.write (m : Memory) (i : Slot) (v : Byte) : Memory := m.writeAt i.val v

/-- `PB[0] = PB[1] = PB[2] = 0x00` (R36). -/
def Memory.zeroed : Memory := []

/-- The framing phase (R23). -/
def State.phase (s : State) : Slot := phaseOf s.bytesReceived

/-! ## Outputs (R12, R13) -/

/-- Append a record to the contractual trace. -/
def State.record (s : State) (o : Obs) : State := { s with trace := s.trace ++ [o] }

/-- `diag(c, info)`: append a record to the diagnostic output (R12, R206). -/
def State.diag (s : State) (d : Diag) : State := { s with diags := s.diags ++ [d] }

/-! ## Ports (R50 to R57) -/

/-- The address of a port, a parameter (R52). -/
def State.portAddr (s : State) : Port → Nat
  | .ctrl => s.params.ctrlPort
  | .data => s.params.dataPort

/-- The environment's answer to the next status read: scripted, or free where the script is empty (R56). -/
def State.statusAnswer (s : State) : Byte := s.statusAnswers.headD (freeByte s.draws)

/-- The environment's answer to the next data read: scripted, or free where the script is empty (R56). -/
def State.dataAnswer (s : State) : Byte := s.dataAnswers.headD (freeByte s.draws)

/-- The counter of free values after an answer: it moves on where the script was empty (log entry 6). -/
def drawsAfter {α : Type} (script : List α) (draws : Nat) : Nat := if script.isEmpty then draws + 1 else draws

/-- `S <- PortRead(CTRL_PORT)` (R100). -/
def State.readStatus (s : State) : State :=
  { s with
    statusReg := s.statusAnswer
    statusAnswers := s.statusAnswers.tail
    draws := drawsAfter s.statusAnswers s.draws
    trace := s.trace ++ [.read (s.portAddr .ctrl) s.statusAnswer] }

/-- `B <- PortRead(DATA_PORT)`, which consumes the answer (R57, R103). -/
def State.readData (s : State) : State :=
  { s with
    dataReg := s.dataAnswer
    dataAnswers := s.dataAnswers.tail
    draws := drawsAfter s.dataAnswers s.draws
    trace := s.trace ++ [.read (s.portAddr .data) s.dataAnswer] }

/-- `PortWrite(p, v)`: no state of the block is written (R101, R102). -/
def State.portWrite (s : State) (p : Port) (v : Byte) : State := s.record (.write (s.portAddr p) v)

/-! ## Sequencer (R26, R28) -/

/-- The "then" column of R28 where it names one label; for a call, the label to resume at.
`I8`, `S6`, `A1` and `H7` end their operation or loop on themselves. -/
def nextLabel : Label → Label
  | .I0 => .I1a | .I1a => .I1b | .I1b => .I2a | .I2a => .I2b | .I2b => .I2c | .I2c => .I2d | .I2d => .I3
  | .I3 => .I4a | .I4a => .I4b | .I4b => .I4c | .I4c => .I4d | .I4d => .I5 | .I5 => .I6 | .I6 => .I7 | .I7 => .I8
  | .I8 => .I8
  | .S1 => .S2 | .S2 => .S3 | .S3 => .S4 | .S4 => .S5 | .S5 => .S6
  | .S6 => .S6
  | .A1 => .A1
  | .H1 => .H2 | .H2 => .H3 | .H3 => .H4 | .H4 => .H5 | .H5 => .H6 | .H6 => .H7
  | .H7 => .H7

/-- `seq <- l`. -/
def State.goto (s : State) (l : Label) : State := { s with seq := l }

/-- `call AWAIT_READY(d)`: `dir <- d; poll_n <- 0`, the resume label kept in its level of `ret`, and on to `A1`
(R26, R104). -/
def State.callAwait (s : State) (d : Dir) : State :=
  { s with dir := d, pollN := 0, retAwait := nextLabel s.seq, seq := .A1 }

/-- `call SEND_DEVICE_COMMAND(c)`: `CMD <- c`, the resume label kept in its level of `ret`, and on to `S1` (R26, R110). -/
def State.callSend (s : State) (c : Byte) : State :=
  { s with cmd := c, retSend := nextLabel s.seq, seq := .S1 }

/-! ## Taking the interrupt, and returning from it -/

/-- Entry (R199): the notification is used up, `mode <- SERVICE`, `seq <- H1`; nothing is saved. -/
def State.enterService (s : State) : State := { s with mode := .service, seq := .H1, irqReq := false }

/-- Return (R200): `mode <- ARMED`; nothing is restored. -/
def State.returnToArmed (s : State) : State := { s with mode := .armed }

/-! ## RESET -/

/-- RESET's effect on the registers (R220, R221): `mode <- OFF`, and every other register becomes unspecified, that is, takes
a free value.
The outputs, the request lines of others and the environment stay. -/
def State.loseRegisters (s : State) : State :=
  { s with
    mode := .off
    packetBuffer :=
      ((Memory.zeroed.write 0 (freeByte s.draws)).write 1 (freeByte (s.draws + 1))).write 2 (freeByte (s.draws + 2))
    bytesReceived := countIn s.params.cntW (freeCount s.draws)
    cumulativeX := freeHalf s.draws
    cumulativeY := freeHalf (s.draws + 1)
    seq := freeLabel s.draws
    retAwait := freeLabel (s.draws + 1)
    retSend := freeLabel (s.draws + 2)
    pollN := freeCount (s.draws + 1) % (s.params.pollBound + 1)
    dir := freeDir s.draws
    statusReg := freeByte (s.draws + 3)
    dataReg := freeByte (s.draws + 4)
    cfg := freeByte (s.draws + 5)
    cmd := freeByte (s.draws + 6)
    packet := freeEvent s.draws
    draws := s.draws + 7 }

end Sys2Proof.Machine
end

