-- ==== Sys2Proof/Machine/Assembler.lean ====
section
/-! DEFINITION. The meanings of the framing machine's internal operations (R156, R170, R175, R176). -/

namespace Sys2Proof.Machine

/-- STORE_BYTE (R156): `PB[bytes_received mod 3] <- B`. -/
def execStoreByte (s : State) : Host.Outcome State Fault Refusal :=
  .next { s with packetBuffer := s.packetBuffer.write s.phase s.dataReg }

/-- DECODE (R170): the five values of the three buffered bytes, held until they are emitted. -/
def execDecode (s : State) : Host.Outcome State Fault Refusal :=
  .next { s with packet := eventOf (s.packetBuffer.read 0) (s.packetBuffer.read 1) (s.packetBuffer.read 2) }

/-- EMIT (R175): one event record. -/
def execEmit (s : State) : Host.Outcome State Fault Refusal := .next (s.record (.emit s.packet))

/-- ACC_UPDATE (R176). -/
def execAccUpdate (s : State) : Host.Outcome State Fault Refusal :=
  .next { s with
    cumulativeX := accumulate s.params.accMode s.cumulativeX s.packet.dx
    cumulativeY := accumulate s.params.accMode s.cumulativeY s.packet.dy }

end Sys2Proof.Machine
end

