-- ==== Sys2Proof/Machine/Commands.lean ====
section
/-! DEFINITION. The meanings of the controller commands, the device commands and the acknowledgement (R106 to R109, R111 to
R113). -/

namespace Sys2Proof.Machine

/-- AUX_ENABLE: `CTRL_WRITE 0xA8` (R106). -/
def execAuxEnable (s : State) : Host.Outcome State Fault Refusal := .next (s.portWrite .ctrl 0xA8)

/-- CFG_READ: `CTRL_WRITE 0x20` (R107). -/
def execCfgRead (s : State) : Host.Outcome State Fault Refusal := .next (s.portWrite .ctrl 0x20)

/-- CFG_WRITE: `CTRL_WRITE 0x60` (R108). -/
def execCfgWrite (s : State) : Host.Outcome State Fault Refusal := .next (s.portWrite .ctrl 0x60)

/-- AUX_ROUTE: `CTRL_WRITE 0xD4` (R109). -/
def execAuxRoute (s : State) : Host.Outcome State Fault Refusal := .next (s.portWrite .ctrl 0xD4)

/-- DEV_SET_DEFAULTS: `call SEND_DEVICE_COMMAND(0xF6)` (R111). -/
def execDevSetDefaults (s : State) : Host.Outcome State Fault Refusal := .next (s.callSend 0xF6)

/-- DEV_ENABLE_STREAM: `call SEND_DEVICE_COMMAND(0xF4)` (R112). -/
def execDevEnableStream (s : State) : Host.Outcome State Fault Refusal := .next (s.callSend 0xF4)

/-- ACK, the step `S6` (R110, R113): read a data byte; 0xFA returns to the caller of SEND_DEVICE_COMMAND, any other byte is
discarded and the block stays at `S6`, without bound. -/
def execAck (s : State) : Host.Outcome State Fault Refusal :=
  .next (if isAck s.dataAnswer then s.readData.goto s.retSend else s.readData.goto .S6)

end Sys2Proof.Machine
end

