-- ==== Sys2Proof/Machine/Initialize.lean ====
section
/-! DEFINITION. The meanings of INIT's internal steps ZERO_STATE and ENABLE_IRQ_LINE (R132, R139). -/

namespace Sys2Proof.Machine

/-- ZERO_STATE (R132): the four items of Driver State are zeroed. -/
def execZeroState (s : State) : Host.Outcome State Fault Refusal :=
  .next { s with cumulativeX := 0, cumulativeY := 0, bytesReceived := 0, packetBuffer := Memory.zeroed }

/-- ENABLE_IRQ_LINE (R139): `EnableIrq(IRQ_INDEX, IRQ_TARGET)`, an output alone. -/
def execEnableIrqLine (s : State) : Host.Outcome State Fault Refusal :=
  .next (s.record (.enableIrq s.params.irqIndex s.params.irqTarget))

end Sys2Proof.Machine
end

