-- ==== Sys2Proof/Machine/Requests.lean ====
section
/-! DEFINITION. The meanings of the three requests RESET, INIT and HANDLE_IRQ (R82).
INIT and HANDLE_IRQ are accepted here and run by the sequencer, one label a step (R28; log entry 11).
A request that the mode does not accept stays outstanding and changes nothing (R202; log entry 9). -/

namespace Sys2Proof.Machine

/-- RESET (R220): accepted in every mode; the request is used up and every register loses its value. -/
def execReset (s : State) : Host.Outcome State Fault Refusal :=
  .next { s.loseRegisters with resetReq := false }

/-- INIT (R130, R131): accepted in `OFF` and `ARMED`, where `mode <- INIT` and `seq <- I0`; otherwise the host holds it. -/
def execInit (s : State) : Host.Outcome State Fault Refusal :=
  if isQuiescent s.mode then .next { s with mode := .init, seq := .I0, initReq := false }
  else .next { s with initReq := true }

/-- HANDLE_IRQ (R151, R152, R199): accepted in `ARMED` alone; otherwise the platform keeps the notification. -/
def execHandleIrq (s : State) : Host.Outcome State Fault Refusal :=
  if s.mode = .armed then .next s.enterService
  else .next { s with irqReq := true }

end Sys2Proof.Machine
end

