-- ==== Sys2Proof/Machine/Transport.lean ====
section
/-! DEFINITION. The meanings of the transport micro-operations (40_transport.md, R100 to R104, R110).
AWAIT_READY and SEND_DEVICE_COMMAND are entered here; their labels `A1` and `S1` to `S6` are steps of the sequencer
(R28; log entry 11). -/

namespace Sys2Proof.Machine

/-- STATUS_READ (R100). -/
def execStatusRead (s : State) : Host.Outcome State Fault Refusal := .next s.readStatus

/-- CTRL_WRITE v (R101). -/
def execCtrlWrite (v : Byte) (s : State) : Host.Outcome State Fault Refusal := .next (s.portWrite .ctrl v)

/-- DATA_WRITE v (R102). -/
def execDataWrite (v : Byte) (s : State) : Host.Outcome State Fault Refusal := .next (s.portWrite .data v)

/-- DATA_READ (R103). -/
def execDataRead (s : State) : Host.Outcome State Fault Refusal := .next s.readData

/-- AWAIT_READY d (R104), entered. -/
def execAwaitReady (d : Dir) (s : State) : Host.Outcome State Fault Refusal := .next (s.callAwait d)

/-- SEND_DEVICE_COMMAND c (R110), entered. -/
def execSendDeviceCommand (c : Byte) (s : State) : Host.Outcome State Fault Refusal := .next (s.callSend c)

end Sys2Proof.Machine
end

