-- ==== Sys2Proof/Machine/Dispatch.lean ====
section
/-! DEFINITION. The dispatch of every operation to its meaning. -/

namespace Sys2Proof.Machine

def exec (i : Instr) (s : State) : Host.Outcome State Fault Refusal :=
  match i with
  | .reset => Sys2Proof.Machine.execReset s
  | .init => Sys2Proof.Machine.execInit s
  | .handleIrq => Sys2Proof.Machine.execHandleIrq s
  | .statusRead => Sys2Proof.Machine.execStatusRead s
  | .ctrlWrite v => Sys2Proof.Machine.execCtrlWrite v s
  | .dataWrite v => Sys2Proof.Machine.execDataWrite v s
  | .dataRead => Sys2Proof.Machine.execDataRead s
  | .awaitReady d => Sys2Proof.Machine.execAwaitReady d s
  | .sendDeviceCommand c => Sys2Proof.Machine.execSendDeviceCommand c s
  | .auxEnable => Sys2Proof.Machine.execAuxEnable s
  | .cfgRead => Sys2Proof.Machine.execCfgRead s
  | .cfgWrite => Sys2Proof.Machine.execCfgWrite s
  | .auxRoute => Sys2Proof.Machine.execAuxRoute s
  | .devSetDefaults => Sys2Proof.Machine.execDevSetDefaults s
  | .devEnableStream => Sys2Proof.Machine.execDevEnableStream s
  | .ack => Sys2Proof.Machine.execAck s
  | .zeroState => Sys2Proof.Machine.execZeroState s
  | .enableIrqLine => Sys2Proof.Machine.execEnableIrqLine s
  | .storeByte => Sys2Proof.Machine.execStoreByte s
  | .decode => Sys2Proof.Machine.execDecode s
  | .emit => Sys2Proof.Machine.execEmit s
  | .accUpdate => Sys2Proof.Machine.execAccUpdate s

end Sys2Proof.Machine
end

