-- ==== Sys2Proof/Machine/Sequencer.lean ====
section
/-! DEFINITION. The sequencer: what each label of R28 does, which request the block accepts (R198, R202), and the moves of the
other agents (R243). -/

namespace Sys2Proof.Machine

open Sys2Proof.Config

/-- Go on from a next state; a stop stays a stop. -/
def andThen (o : Host.Outcome State Fault Refusal) (f : State → Host.Outcome State Fault Refusal) :
    Host.Outcome State Fault Refusal :=
  match o with
  | .next t => f t
  | .fault r => .fault r
  | .refused r => .refused r

/-- Run operations one after another. -/
def execAll : List Instr → State → Host.Outcome State Fault Refusal
  | [], s => .next s
  | i :: is, s => andThen (exec i s) (execAll is)

/-- The wait has made `POLL_BOUND` status reads (R104). -/
def State.waitExhausted (s : State) : Bool := s.pollN == s.params.pollBound

/-- The operations of the table that a label performs (R28); the labels `I3`, `I8`, `H5` and `H7` perform none, `A1` none when
the bound is reached, `H6` none when the packet is not complete. -/
def State.labelOps (s : State) : Label → List Instr
  | .I0 => [.zeroState]
  | .I1a | .I2a | .I4a | .I4c | .S1 | .S3 => [.awaitReady .send]
  | .I2c | .S5 | .H1 => [.awaitReady .recv]
  | .I1b => [.auxEnable]
  | .I2b => [.cfgRead]
  | .I4b => [.cfgWrite]
  | .I4d => [.dataWrite s.cfg]
  | .I5 => [.devSetDefaults]
  | .I6 => [.devEnableStream]
  | .I7 => [.enableIrqLine]
  | .S2 => [.auxRoute]
  | .S4 => [.dataWrite s.cmd]
  | .S6 => [.ack]
  | .I2d | .H3 => [.dataRead]
  | .H2 => [.statusRead]
  | .H4 => [.storeByte]
  | .A1 => if s.waitExhausted then [] else [.statusRead]
  | .H6 => if packetComplete s.bytesReceived then [.decode, .emit, .accUpdate] else []
  | .I3 | .I8 | .H5 | .H7 => []

/-- The end of step `A1` (R104): the exhausted bound is reported on `diag` and the wait returns; a met condition returns;
otherwise the read is counted and the wait goes on. -/
def State.finishPoll (s : State) : State :=
  if s.waitExhausted then (s.diag (.pollTimeout s.dir)).goto s.retAwait
  else if waitMet s.dir s.statusReg then s.goto s.retAwait
  else { s with pollN := s.pollN + 1 }

/-- What a label does besides its operations, and where it goes (R28): the "action" and "then" columns. -/
def State.finishLabel (s : State) : Label → State
  -- a call and the acknowledgement have set `seq` themselves
  | .I1a | .I2a | .I2c | .I4a | .I4c | .S1 | .S3 | .S5 | .H1 | .I5 | .I6 | .S6 => s
  | .I2d => { s with cfg := s.dataReg, seq := .I3 }
  | .I3 => { s with cfg := withAuxInterrupt s.cfg, seq := .I4a }
  | .I8 => { s with mode := .armed }
  | .A1 => s.finishPoll
  | .H2 => s.goto (if outputFull s.statusReg then .H3 else .H7)
  | .H5 => { s with bytesReceived := nextCount s.params.cntW s.bytesReceived, seq := .H6 }
  | .H7 => s.returnToArmed
  | .I0 => s.goto (nextLabel .I0)
  | .I1b => s.goto (nextLabel .I1b)
  | .I2b => s.goto (nextLabel .I2b)
  | .I4b => s.goto (nextLabel .I4b)
  | .I4d => s.goto (nextLabel .I4d)
  | .I7 => s.goto (nextLabel .I7)
  | .S2 => s.goto (nextLabel .S2)
  | .S4 => s.goto (nextLabel .S4)
  | .H3 => s.goto (nextLabel .H3)
  | .H4 => s.goto (nextLabel .H4)
  | .H6 => s.goto (nextLabel .H6)

/-- The one step enabled in `INIT` and `SERVICE`: the one `seq` names (R201). -/
def runLabel (s : State) : Host.Outcome State Fault Refusal :=
  andThen (execAll (s.labelOps s.seq) s) (fun t => .next (t.finishLabel s.seq))

/-- The choice between an outstanding notification and an outstanding `init_req`: "either may be accepted first" (R198). -/
def State.irqFirst (s : State) : Bool := s.arbiter.headD (freeChoice s.draws)

/-- The choice is used up. -/
def State.afterChoice (s : State) : State :=
  { s with arbiter := s.arbiter.tail, draws := drawsAfter s.arbiter s.draws }

/-- Acceptance in `OFF` (R202): INIT alone; with nothing to accept the run is over and nothing changes (R242). -/
def acceptOff (s : State) : Host.Outcome State Fault Refusal :=
  if s.initReq then exec .init s else .next s

/-- Acceptance in `ARMED` (R198, R202). -/
def acceptArmed (s : State) : Host.Outcome State Fault Refusal :=
  match s.irqReq, s.initReq with
  | true, true => if s.irqFirst then exec .handleIrq s.afterChoice else exec .init s.afterChoice
  | true, false => exec .handleIrq s
  | false, true => exec .init s
  | false, false => .next s

/-- The block's move: RESET wins in every mode (R198); a quiescent block accepts a request; a busy one runs its label. -/
def blockTurn (s : State) : Host.Outcome State Fault Refusal :=
  if s.resetReq then exec .reset s
  else
    match s.mode with
    | .off => acceptOff s
    | .armed => acceptArmed s
    | .init | .service => runLabel s

/-- A move of R243.
The last two are moves it assumes never to happen: they are refused where they would interleave with the block, and touch
nothing of the block where it is quiescent (R63, R200). -/
def outsideMove (m : Move) (s : State) : Host.Outcome State Fault Refusal :=
  match m with
  | .block => blockTurn s
  | .raiseReset => .next { s with resetReq := true }
  | .raiseInit => .next { s with initReq := true }
  | .deliverIrq => .next { s with irqReq := true }
  | .dropIrq => .next { s with irqReq := false }
  | .foreignAccess => if isQuiescent s.mode then .next s else .refused .foreignMaster
  | .nestedHandler => if isQuiescent s.mode then .next s else .refused .nestedHandler

/-- One move of the agent the schedule names, of the block where it names none (log entry 8). -/
def turn (s : State) : Host.Outcome State Fault Refusal :=
  match s.schedule with
  | [] => blockTurn s
  | m :: rest => outsideMove m { s with schedule := rest }

/-! ## Placing an encoded operation where the next step runs it -/

/-- The step of R28 at which an operation of the table is performed, where it has one of its own encoding. -/
def labelOf : Instr → Option Label
  | .auxEnable => some .I1b
  | .cfgRead => some .I2b
  | .cfgWrite => some .I4b
  | .auxRoute => some .S2
  | .devSetDefaults => some .I5
  | .devEnableStream => some .I6
  | .ack => some .S6
  | .reset | .init | .handleIrq | .statusRead | .ctrlWrite _ | .dataWrite _ | .dataRead | .awaitReady _ => none
  | .sendDeviceCommand _ | .zeroState | .enableIrqLine | .storeByte | .decode | .emit | .accUpdate => none

/-- The block moves next, and no request is outstanding. -/
def State.onlyBlock (s : State) : State :=
  { s with schedule := .block :: s.schedule, resetReq := false, initReq := false, irqReq := false }

/-- Make an encoded operation the one the next step runs: a request is raised in a mode that accepts it, a command is reached
in INIT, and the response is what the environment answers at `S6` (log entry 19). -/
def State.place (s : State) (i : Instr) : State :=
  match i, labelOf i with
  | .reset, _ => { s.onlyBlock with resetReq := true }
  | .init, _ => { s.onlyBlock with initReq := true, mode := if isQuiescent s.mode then s.mode else .off }
  | .handleIrq, _ => { s.onlyBlock with irqReq := true, mode := .armed }
  | .ack, _ => { s.onlyBlock with mode := .init, seq := .S6, dataAnswers := ackByte :: s.dataAnswers }
  | _, some l => { s.onlyBlock with mode := .init, seq := l }
  | _, none => s

end Sys2Proof.Machine
end

