-- ==== Sys2Proof/Machine/Step.lean ====
section
/-! DEFINITION. One step of the machine, and the placing of an encoded operation. -/

namespace Sys2Proof.Machine

/-- One step: one move of one agent (R7, R8). -/
def step (s : State) : Host.Outcome State Fault Refusal := turn s

/-- `s` with the operation that `w` encodes placed where the next step runs it; `s` itself where `w` encodes none. -/
def State.withFetchWord (s : State) (nbits w : Nat) : State :=
  match decodeTableWord nbits w with
  | some i => s.place i
  | none => s

end Sys2Proof.Machine
end

