-- ==== Sys2Proof/Machine/Scenario.lean ====
section
/-! DEFINITION. The scenario notation (R86, R87): what is asked of the block and what the environment answers. -/

namespace Sys2Proof.Machine

open Sys2Proof.Config

/-- The requests of R86. -/
inductive Request where
  | reset
  | init
  | irq
  deriving DecidableEq, Repr

/-- A request with the answers the environment gives to the status reads and to the data reads it leads to.
R86's single column of `S:` and `D:` answers is kept as its two kinds (log entry 5). -/
structure Asked where
  request : Request
  status : List Byte
  data : List Byte
  deriving DecidableEq, Repr

/-- `BYTE hh` (R87). -/
def Asked.byte (b : Byte) : Asked := ⟨.irq, [0x01, 0x01], [b]⟩

/-- `PACKET f x y` (R87). -/
def Asked.packet (f x y : Byte) : List Asked := [Asked.byte f, Asked.byte x, Asked.byte y]

/-- `SPURIOUS` (R87). -/
def Asked.spurious (p : Params) : Asked := ⟨.irq, List.replicate (p.pollBound + 1) 0x00, []⟩

/-- `INIT_OK c` (R87): every wait is met at its first read, and each device command is acknowledged at once. -/
def Asked.initOk (c : Byte) : Asked :=
  ⟨.init, [0x00, 0x00, 0x01, 0x00, 0x00, 0x00, 0x00, 0x01, 0x00, 0x00, 0x01], [c, 0xFA, 0xFA]⟩

/-- Present a request: its line is raised, and the answers stand behind those already scripted. -/
def State.present (s : State) (a : Asked) : State :=
  { s with
    resetReq := s.resetReq || decide (a.request = .reset)
    initReq := s.initReq || decide (a.request = .init)
    irqReq := s.irqReq || decide (a.request = .irq)
    statusAnswers := s.statusAnswers ++ a.status
    dataAnswers := s.dataAnswers ++ a.data }

end Sys2Proof.Machine
end

