-- ==== Sys2Proof/Safety.lean ====
section
/-! DEFINITION. What claims speak of: runs, what a trace shows (R13), the end of a run (R242), the hang (R227), the shape of a
state inside an operation, framing since a point of the trace (R159), INIT's progress (R141), and the premises of R244. -/

namespace Sys2Proof.Machine

open Sys2Proof.Config

/-! ## Runs -/

/-- `k` steps, stopping at the first stop. -/
def runSteps : Nat → State → Host.Outcome State Fault Refusal
  | 0, s => .next s
  | k + 1, s => andThen (step s) (runSteps k)

/-- The block alone moves, and no RESET is outstanding. -/
structure Undisturbed (s : State) : Prop where
  alone : s.schedule = []
  noReset : s.resetReq = false

/-- A run is over (R242): the block is quiescent and no request is outstanding that its mode accepts. -/
def RunOver (s : State) : Prop :=
  s.resetReq = false ∧
    ((s.mode = .off ∧ s.initReq = false) ∨ (s.mode = .armed ∧ s.initReq = false ∧ s.irqReq = false))

/-- From here on the block is never again quiescent (R227). -/
def Hangs (s : State) : Prop := ∀ k, ∃ t, runSteps k s = .next t ∧ isQuiescent t.mode = false

/-- The four items of Driver State (R20). -/
def State.driverState (s : State) : Memory × Nat × Half × Half :=
  (s.packetBuffer, s.bytesReceived, s.cumulativeX, s.cumulativeY)

/-! ## What a trace shows -/

/-- The port writes, as address and byte, in order. -/
def writesOf : List Obs → List (Nat × Byte)
  | [] => []
  | .write a v :: rest => (a, v) :: writesOf rest
  | _ :: rest => writesOf rest

/-- The bytes read at an address, in order. -/
def readsAt (addr : Nat) : List Obs → List Byte
  | [] => []
  | .read a v :: rest => if a = addr then v :: readsAt addr rest else readsAt addr rest
  | _ :: rest => readsAt addr rest

/-- The events, in order. -/
def eventsOf : List Obs → List Event
  | [] => []
  | .emit e :: rest => e :: eventsOf rest
  | _ :: rest => eventsOf rest

/-- The `EnableIrq` calls, in order. -/
def enablesOf : List Obs → List (Nat × Nat)
  | [] => []
  | .enableIrq i t :: rest => (i, t) :: enablesOf rest
  | _ :: rest => enablesOf rest

/-! ## The shape of a state -/

/-- The label the sequencer is at, a wait being counted as the label it resumes at. -/
def State.position (s : State) : Label := if s.seq = .A1 then s.retAwait else s.seq

/-- INIT's own labels (R28). -/
def initLabels : List Label :=
  [.I0, .I1a, .I1b, .I2a, .I2b, .I2c, .I2d, .I3, .I4a, .I4b, .I4c, .I4d, .I5, .I6, .I7, .I8]

/-- The labels of SEND_DEVICE_COMMAND (R28). -/
def sendLabels : List Label := [.S1, .S2, .S3, .S4, .S5, .S6]

/-- The labels of HANDLE_IRQ (R28). -/
def handlerLabels : List Label := [.H1, .H2, .H3, .H4, .H5, .H6, .H7]

/-- The direction of the wait that ends at a label, where one does (R28). -/
def waitBefore : Label → Option Dir
  | .I1b | .I2b | .I4b | .I4d | .S2 | .S4 => some .send
  | .I2d | .S6 | .H2 => some .recv
  | _ => none

/-- What the spec says of every state of a run: the buffer is canonical, the ports differ (R52), the count is within `CNT_W`
(R22), a wait has not read past its bound and resumes where R28 says, the position belongs to the mode (R27, R28), and the
device command and configuration byte are the ones their labels send (R81, R135). -/
structure Coherent (s : State) : Prop where
  buffer : s.packetBuffer.wf = true
  ports : s.params.wf = true
  count : ∀ w, s.params.cntW = some w → s.bytesReceived < 2 ^ w
  polls : isQuiescent s.mode = false → s.seq = .A1 → s.pollN ≤ s.params.pollBound
  resumes : isQuiescent s.mode = false → s.seq = .A1 → waitBefore s.retAwait = some s.dir
  inInit : s.mode = .init → s.position ∈ initLabels ++ sendLabels
  inService : s.mode = .service → s.position ∈ handlerLabels
  inSend : s.mode = .init → s.position ∈ sendLabels → (s.retSend, s.cmd) ∈ [(Label.I6, (0xF6 : Byte)), (Label.I7, 0xF4)]
  configured : s.mode = .init → s.position ∈ [Label.I4a, .I4b, .I4c, .I4d] → s.cfg.getLsbD 1 = true

/-! ## Framing (R159, R160) -/

/-- The packets of a byte stream, three consecutive bytes each, a partial packet at the end left out (R159). -/
def packetsOf : List Byte → List Event
  | f :: x :: y :: rest => eventOf f x y :: packetsOf rest
  | _ => []

/-- A byte read at `H3` waits at `H4` to be stored. -/
def State.unstored (s : State) : Nat := if s.mode = .service ∧ s.seq = .H4 then 1 else 0

/-- A byte read at `H3` waits at `H4` or `H5` to be counted. -/
def State.uncounted (s : State) : Nat := if s.mode = .service ∧ s.seq ∈ [Label.H4, .H5] then 1 else 0

/-- A byte read at `H3` waits at `H4`, `H5` or `H6` to complete a packet. -/
def State.undecoded (s : State) : Nat := if s.mode = .service ∧ s.seq ∈ [Label.H4, .H5, .H6] then 1 else 0

/-- Since the trace was `before`, when the phase was 0, the block has stayed in `ARMED` and `SERVICE`; the bytes it consumed
are the data reads since; it has emitted the packets of those bytes and nothing else; the count and the buffer follow them. -/
structure Framed (before : List Obs) (s : State) : Prop where
  running : s.mode = .armed ∨ s.mode = .service
  counts : s.params.cntW = none
  taken : ∃ since, s.trace = before ++ since ∧
    ∃ bs, readsAt s.params.dataPort since = bs ∧
      s.undecoded ≤ bs.length ∧
      (∃ q, s.bytesReceived + s.uncounted = 3 * q + bs.length) ∧
      eventsOf since = packetsOf (bs.take (bs.length - s.undecoded)) ∧
      (∀ k b, bs[k]? = some b → k < bs.length - s.unstored → bs.length - s.unstored ≤ k + 3 →
        s.packetBuffer.read (phaseOf k) = b) ∧
      (s.unstored = 1 → bs.getLast? = some s.dataReg)

/-! ## INIT's progress (R141) -/

/-- The eight writes of R141, with `c` the byte read at `I2d`. -/
def initWrites (p : Params) (c : Byte) : List (Nat × Byte) :=
  [(p.ctrlPort, 0xA8), (p.ctrlPort, 0x20), (p.ctrlPort, 0x60), (p.dataPort, withAuxInterrupt c),
   (p.ctrlPort, 0xD4), (p.dataPort, 0xF6), (p.ctrlPort, 0xD4), (p.dataPort, 0xF4)]

/-- How many of the eight writes precede a position; `second` tells the second SEND_DEVICE_COMMAND from the first. -/
def writesBefore (second : Bool) : Label → Nat
  | .I2a | .I2b => 1
  | .I2c | .I2d | .I3 | .I4a | .I4b => 2
  | .I4c | .I4d => 3
  | .I5 => 4
  | .S1 | .S2 => if second then 6 else 4
  | .S3 | .S4 => if second then 7 else 5
  | .S5 | .S6 => if second then 8 else 6
  | .I6 => 6
  | .I7 | .I8 => 8
  | _ => 0

/-- The data reads of R141 that precede a position: none, then the configuration byte, then the two acknowledgement loops, each
ended by its only 0xFA. -/
def DataReadsBefore (second : Bool) (c : Byte) (reads : List Byte) : Label → Prop
  | .I3 | .I4a | .I4b | .I4c | .I4d | .I5 => reads = [c]
  | .S1 | .S2 | .S3 | .S4 | .S5 | .S6 =>
    if second then ∃ j k, ackByte ∉ j ∧ ackByte ∉ k ∧ reads = c :: (j ++ ackByte :: k)
    else ∃ j, ackByte ∉ j ∧ reads = c :: j
  | .I6 => ∃ j, ackByte ∉ j ∧ reads = c :: (j ++ [ackByte])
  | .I7 | .I8 => ∃ j k, ackByte ∉ j ∧ ackByte ∉ k ∧ reads = c :: (j ++ ackByte :: (k ++ [ackByte]))
  | _ => reads = []

/-- INIT is running and, since the trace was `before`, has made of R141's accesses exactly those that precede its position. -/
structure Initialising (before : List Obs) (s : State) : Prop where
  running : s.mode = .init
  made : ∃ since c, s.trace = before ++ since ∧
    writesOf since = (initWrites s.params c).take (writesBefore (decide (s.retSend = .I7)) s.position) ∧
    DataReadsBefore (decide (s.retSend = .I7)) c (readsAt s.params.dataPort since) s.position ∧
    eventsOf since = [] ∧
    enablesOf since = (if s.position = .I8 then [(s.params.irqIndex, s.params.irqTarget)] else []) ∧
    (s.position = .I3 → s.cfg = c) ∧
    (s.position ∈ [Label.I4a, .I4b, .I4c, .I4d] → s.cfg = withAuxInterrupt c)

/-- INIT has ended in `ARMED` having made, since the trace was `before`, exactly the accesses of R141. -/
structure Initialised (before : List Obs) (s : State) : Prop where
  armed : s.mode = .armed
  made : ∃ since c j k, s.trace = before ++ since ∧
    writesOf since = initWrites s.params c ∧
    ackByte ∉ j ∧ ackByte ∉ k ∧
    readsAt s.params.dataPort since = c :: (j ++ ackByte :: (k ++ [ackByte])) ∧
    eventsOf since = [] ∧
    enablesOf since = [(s.params.irqIndex, s.params.irqTarget)]

/-! ## The named premises of R244, as properties of the run from a state (log entry 28)

The seventh, `P_INIT_FIRST`, is no premise but a theorem of the model (R244): `Obligations.OffLeavesOnlyByInit`. -/

/-- The run from `s` passes through `u`. -/
def Visits (s u : State) : Prop := ∃ k, runSteps k s = .next u

/-- `P_EXCLUSIVE`: wherever the run from `s` is in `INIT` or `SERVICE`, the next move is no other master's access. -/
def PExclusive (s : State) : Prop :=
  ∀ u, Visits s u → isQuiescent u.mode = false → u.schedule.head? ≠ some .foreignAccess

/-- `P_SERIAL`: wherever the run from `s` is in `INIT` or `SERVICE`, the next move starts no handler invocation. -/
def PSerial (s : State) : Prop :=
  ∀ u, Visits s u → isQuiescent u.mode = false → u.schedule.head? ≠ some .nestedHandler

/-- The next step of `u` is the data read of `S6`, and it returns 0xFA, scripted or free. -/
def ReadsAck (u : State) : Prop := ∃ t, step u = .next t ∧ t.trace = u.trace ++ [.read u.params.dataPort ackByte]

/-- `P_ACK`: wherever the run from `s` is at `S6` in `INIT`, it stays there until a data read that returns 0xFA.
INIT runs `S6` twice, and each execution needs a 0xFA of its own (R143). -/
def PAck (s : State) : Prop :=
  ∀ u, Visits s u → u.mode = .init → u.seq = .S6 →
    ∃ j w, runSteps j u = .next w ∧ ReadsAck w ∧
      ∀ i v, i ≤ j → runSteps i u = .next v → v.mode = .init ∧ v.seq = .S6

/-- `P_NO_DEGRADE`: no wait of the run from `s` exhausts `POLL_BOUND`. -/
def PNoDegrade (s : State) : Prop :=
  ∀ u, Visits s u → isQuiescent u.mode = false → u.seq = .A1 → u.waitExhausted = false

/-- The mouse as R192, R225 and R232 speak of it: every byte it sends, in packets of three from the first; how many of them it
had sent when INIT ended; and which of them is the first that the handler then consumes. -/
structure Device where
  stream : List Byte
  sentBefore : Nat
  firstConsumed : Nat
  deriving DecidableEq, Repr

/-- INIT has just ended: `I8` was the last step, and the count is the one `I0` left (R132, R140). -/
structure JustInitialised (s : State) : Prop where
  armed : s.mode = .armed
  atEnd : s.seq = .I8
  zeroed : s.bytesReceived = 0

/-- The records a run has added between two of its states. -/
def traceSince (s t : State) : List Obs := t.trace.drop s.trace.length

/-- The bytes the handler consumed between two states of a run that stays in `ARMED` and `SERVICE`: its data reads, of which
each invocation makes at most one (R155). -/
def consumedSince (s t : State) : List Byte := readsAt s.params.dataPort (traceSince s t)

/-- `P_NO_LOSS` for the `k` steps after INIT: the run serves interrupts alone, and the bytes consumed are, in order, every byte
the device sent after INIT, each once, and no other byte. -/
structure PNoLoss (d : Device) (s : State) (k : Nat) : Prop where
  afterInit : JustInitialised s
  serving : ∀ i u, i ≤ k → runSteps i s = .next u → u.mode = .armed ∨ u.mode = .service
  noneSkipped : d.firstConsumed = d.sentBefore
  consumed : ∀ t, runSteps k s = .next t → consumedSince s t = d.stream.drop d.sentBefore

/-- `P_ALIGNED` for the `k` steps after INIT: the first byte consumed is the first byte of a device packet. -/
structure PAligned (d : Device) (s : State) (k : Nat) : Prop where
  afterInit : JustInitialised s
  packetStart : d.firstConsumed % 3 = 0
  first : ∀ t b rest, runSteps k s = .next t → consumedSince s t = b :: rest → d.stream[d.firstConsumed]? = some b

/-- DESYNC (R192): the count since ZERO_STATE and the device's position in its own packet stream differ modulo 3. -/
def Desynchronised (s : State) (devicePosition : Nat) : Prop := s.bytesReceived % 3 ≠ devicePosition % 3

end Sys2Proof.Machine
end

