-- ==== Sys2Proof/Certificates/Slice0/Obligations.lean ====
section
/-! DEFINITION. The statements for the provers.  Each docstring names the rules of spec/ it speaks of, and the log
entry of a model's choice it rests on. -/

open Sys2Proof Sys2Proof.Machine Sys2Proof.Config

/-! ## Requests, modes and reset -/

/-- R36, R37, R222: the machine right after reset is `OFF`, and with nothing requested no step is ever taken.
MODEL'S CHOICE: nothing is requested at reset (log entry 9), and an idle block's step changes nothing (log entry 8). -/
def Obligations.ResetStateIsOffAndIdle : Prop :=
  State.reset.mode = .off ∧ step State.reset = .next State.reset ∧ State.reset.trace = [] ∧ State.reset.diags = []

/-- R220: RESET, in every mode, gives `OFF`, uses its request up, and leaves the outputs, the environment and
the parameters alone.
MODEL'S CHOICE: its own line is lowered and the two other request lines stay as they are (log entry 9). -/
def Obligations.ResetTurnsOffWithoutOutput : Prop :=
  ∀ s : State, ∃ t, exec .reset s = .next t ∧ t.mode = .off ∧ t.resetReq = false ∧
    t.trace = s.trace ∧ t.diags = s.diags ∧ t.params = s.params ∧
    t.initReq = s.initReq ∧ t.irqReq = s.irqReq ∧ t.schedule = s.schedule ∧ t.arbiter = s.arbiter ∧
    t.statusAnswers = s.statusAnswers ∧ t.dataAnswers = s.dataAnswers

/-- R220, R221: RESET forgets every register: two machines that differ only in the block's registers are the same machine after
RESET (no value from before RESET can be read out of it).
MODEL'S CHOICE: the free values depend on the draw counter alone (log entry 4). -/
def Obligations.ResetForgetsEveryRegister : Prop :=
  ∀ s r : State, s.params = r.params → s.draws = r.draws → s.trace = r.trace → s.diags = r.diags →
    s.initReq = r.initReq → s.irqReq = r.irqReq → s.schedule = r.schedule → s.arbiter = r.arbiter →
    s.statusAnswers = r.statusAnswers → s.dataAnswers = r.dataAnswers → exec .reset s = exec .reset r

/-- R130, R202: INIT is accepted in `OFF` and `ARMED`; in `INIT` and `SERVICE` the request is held and nothing else changes. -/
def Obligations.InitAcceptedWhenQuiescent : Prop :=
  ∀ s : State,
    (s.mode = .off ∨ s.mode = .armed →
      exec .init s = .next { s with mode := .init, seq := .I0, initReq := false }) ∧
    (s.mode = .init ∨ s.mode = .service → exec .init s = .next { s with initReq := true })

/-- R151, R199, R202: a notification is accepted in `ARMED` alone, where it is used up and `H1` is next, nothing being saved;
in every other mode the platform keeps it and nothing else changes. -/
def Obligations.IrqAcceptedWhenArmed : Prop :=
  ∀ s : State,
    (s.mode = .armed → exec .handleIrq s = .next { s with mode := .service, seq := .H1, irqReq := false }) ∧
    (s.mode ≠ .armed → exec .handleIrq s = .next { s with irqReq := true })

/-- R198, R202: what the block accepts.  RESET wins in every mode; `OFF` accepts INIT; `ARMED` accepts whichever request is
alone; with both outstanding either goes first, as the arbiter's next choice says, and both choices occur.
MODEL'S CHOICE: the arbiter list that carries the choice (log entry 7). -/
def Obligations.RequestsAcceptedByModeAndPriority : Prop :=
  ∀ s : State, s.schedule = [] →
    (s.resetReq = true → step s = exec .reset s) ∧
    (s.resetReq = false → s.mode = .off → s.initReq = true → step s = exec .init s) ∧
    (s.resetReq = false → s.mode = .armed →
      (s.irqReq = true → s.initReq = false → step s = exec .handleIrq s) ∧
      (s.irqReq = false → s.initReq = true → step s = exec .init s) ∧
      (s.irqReq = true → s.initReq = true →
        (∀ rest, s.arbiter = true :: rest → step s = exec .handleIrq { s with arbiter := rest }) ∧
        (∀ rest, s.arbiter = false :: rest → step s = exec .init { s with arbiter := rest }) ∧
        (step s = exec .handleIrq s.afterChoice ∨ step s = exec .init s.afterChoice)))

/-- R242: a run that is over stays as it is.
MODEL'S CHOICE: a final state answers itself (log entry 8). -/
def Obligations.RunOverChangesNothing : Prop :=
  ∀ s : State, s.schedule = [] → RunOver s → step s = .next s

/-- R202: the mode changes only as the table says. -/
def Obligations.ModeTransitionsComplete : Prop :=
  ∀ s t : State, Coherent s → step s = .next t → t.mode ≠ s.mode →
    (s.resetReq = true ∧ t.mode = .off) ∨
    (s.resetReq = false ∧ (s.mode = .off ∨ s.mode = .armed) ∧ s.initReq = true ∧ t.mode = .init ∧ t.seq = .I0) ∨
    (s.resetReq = false ∧ s.mode = .init ∧ s.seq = .I8 ∧ t.mode = .armed) ∨
    (s.resetReq = false ∧ s.mode = .armed ∧ s.irqReq = true ∧ t.mode = .service ∧ t.seq = .H1) ∨
    (s.resetReq = false ∧ s.mode = .service ∧ s.seq = .H7 ∧ t.mode = .armed)

/-- R199, R221, R244 (`P_INIT_FIRST`): in `OFF` nothing but an accepted INIT changes the mode, RESET apart, and no step touches
Driver State, whatever is requested. -/
def Obligations.OffLeavesOnlyByInit : Prop :=
  ∀ s t : State, s.mode = .off → s.resetReq = false → step s = .next t →
    t.driverState = s.driverState ∧ t.trace = s.trace ∧
    (t.mode = .off ∨ (t.mode = .init ∧ t.seq = .I0 ∧ s.initReq = true))

/-- R199, R201, R202: while the block is busy its steps take no request but RESET: both other lines stay as they are. -/
def Obligations.BusyBlockHoldsRequests : Prop :=
  ∀ s t : State, isQuiescent s.mode = false → Undisturbed s → step s = .next t →
    t.irqReq = s.irqReq ∧ t.initReq = s.initReq ∧ (t.mode = s.mode ∨ t.mode = .armed)

/-- R243: the host and the platform have no move but on the request lines.
MODEL'S CHOICE: the schedule and the lines that carry their moves (log entries 8 and 9). -/
def Obligations.OutsideMovesTouchOnlyLines : Prop :=
  ∀ (s : State) (rest : List Move),
    (s.schedule = .raiseReset :: rest → step s = .next { s with schedule := rest, resetReq := true }) ∧
    (s.schedule = .raiseInit :: rest → step s = .next { s with schedule := rest, initReq := true }) ∧
    (s.schedule = .deliverIrq :: rest → step s = .next { s with schedule := rest, irqReq := true }) ∧
    (s.schedule = .dropIrq :: rest → step s = .next { s with schedule := rest, irqReq := false })

/-- R63, R200: a second master's access or a second handler inside a running sequence is given no meaning; where the block is
quiescent neither touches it.
MODEL'S CHOICE: the stop under a name of its own (log entry 16). -/
def Obligations.PremiseBreakersAreRefused : Prop :=
  ∀ (s : State) (rest : List Move),
    (s.schedule = .foreignAccess :: rest →
      (isQuiescent s.mode = false → step s = .refused .foreignMaster) ∧
      (isQuiescent s.mode = true → step s = .next { s with schedule := rest })) ∧
    (s.schedule = .nestedHandler :: rest →
      (isQuiescent s.mode = false → step s = .refused .nestedHandler) ∧
      (isQuiescent s.mode = true → step s = .next { s with schedule := rest }))

/-! ## Port primitives and the wait -/

/-- R100, R103, R57: STATUS_READ writes `S`, DATA_READ writes `B`, each with the byte the environment answers, which is used up;
the read is recorded; nothing else of the block changes.
MODEL'S CHOICE: the scripts that carry the answers (log entry 5). -/
def Obligations.PortReadResult : Prop :=
  ∀ (s : State) (b : Byte) (rest : List Byte),
    (s.statusAnswers = b :: rest → exec .statusRead s = .next { s with
      statusReg := b
      statusAnswers := rest
      trace := s.trace ++ [.read s.params.ctrlPort b] }) ∧
    (s.dataAnswers = b :: rest → exec .dataRead s = .next { s with
      dataReg := b
      dataAnswers := rest
      trace := s.trace ++ [.read s.params.dataPort b] })

/-- R56: a port read is answered when no answer is scripted too, by the free byte
`Config.freeByte` at the draw counter, whatever byte that is: the read completes, `S` or `B` holds the byte that was recorded,
and nothing but the counter changes besides.
MODEL'S CHOICE: the form of the free byte and its counter (log entries 5 and 6). -/
def Obligations.UnscriptedReadsAreFree : Prop :=
  ∀ s : State,
    let b := freeByte s.draws
    (s.statusAnswers = [] → exec .statusRead s = .next { s with
      statusReg := b, draws := s.draws + 1, trace := s.trace ++ [.read s.params.ctrlPort b] }) ∧
    (s.dataAnswers = [] → exec .dataRead s = .next { s with
      dataReg := b, draws := s.draws + 1, trace := s.trace ++ [.read s.params.dataPort b] })

/-- R101, R102: a port write writes no state of the block and is recorded with its port and byte. -/
def Obligations.PortWriteResult : Prop :=
  ∀ (s : State) (v : Byte),
    exec (.ctrlWrite v) s = .next { s with trace := s.trace ++ [.write s.params.ctrlPort v] } ∧
    exec (.dataWrite v) s = .next { s with trace := s.trace ++ [.write s.params.dataPort v] }

/-- R71, R106 to R109: each controller command writes its byte to `CTRL_PORT` and does nothing else. -/
def Obligations.ControllerCommandsWriteTheirByte : Prop :=
  ∀ s : State,
    exec .auxEnable s = .next { s with trace := s.trace ++ [.write s.params.ctrlPort 0xA8] } ∧
    exec .cfgRead s = .next { s with trace := s.trace ++ [.write s.params.ctrlPort 0x20] } ∧
    exec .cfgWrite s = .next { s with trace := s.trace ++ [.write s.params.ctrlPort 0x60] } ∧
    exec .auxRoute s = .next { s with trace := s.trace ++ [.write s.params.ctrlPort 0xD4] }

/-- R26, R104: entering AWAIT_READY sets its direction and count, keeps the label to resume at, and goes to `A1`. -/
def Obligations.AwaitReadyEntry : Prop :=
  ∀ (s : State) (d : Dir),
    exec (.awaitReady d) s = .next { s with dir := d, pollN := 0, retAwait := nextLabel s.seq, seq := .A1 }

/-- R26, R110 to R112: entering SEND_DEVICE_COMMAND keeps the command and the label to resume at and goes to `S1`; the two device
commands enter it with 0xF6 and 0xF4. -/
def Obligations.DeviceCommandEntry : Prop :=
  ∀ s : State,
    (∀ c, exec (.sendDeviceCommand c) s = .next { s with cmd := c, retSend := nextLabel s.seq, seq := .S1 }) ∧
    exec .devSetDefaults s = .next { s with cmd := 0xF6, retSend := nextLabel s.seq, seq := .S1 } ∧
    exec .devEnableStream s = .next { s with cmd := 0xF4, retSend := nextLabel s.seq, seq := .S1 }

/-- R104, the step `A1`: with the bound reached one `diag` and a return; otherwise one status read, then a return if the awaited
bit shows and a count if not. -/
def Obligations.WaitStep : Prop :=
  ∀ s : State, isQuiescent s.mode = false → Undisturbed s → s.seq = .A1 →
    (s.pollN = s.params.pollBound →
      step s = .next { s with diags := s.diags ++ [.pollTimeout s.dir], seq := s.retAwait }) ∧
    (∀ b rest, s.pollN ≠ s.params.pollBound → s.statusAnswers = b :: rest →
      let met := (s.dir = .send ∧ b.getLsbD 1 = false) ∨ (s.dir = .recv ∧ b.getLsbD 0 = true)
      step s = .next { s with
        statusReg := b
        statusAnswers := rest
        trace := s.trace ++ [.read s.params.ctrlPort b]
        seq := if met then s.retAwait else .A1
        pollN := if met then s.pollN else s.pollN + 1 })

/-- R105 (b), (c): a wait returns after the first read that shows the awaited bit, with no further read and no `diag`, the last
allowed read included. -/
def Obligations.WaitEndsAtFirstMetRead : Prop :=
  ∀ (s : State) (busy : List Byte) (b : Byte) (rest : List Byte),
    isQuiescent s.mode = false → Undisturbed s → s.seq = .A1 →
    s.statusAnswers = busy ++ b :: rest → (∀ a ∈ busy, waitMet s.dir a = false) → waitMet s.dir b = true →
    s.pollN + busy.length < s.params.pollBound →
    runSteps (busy.length + 1) s = .next { s with
      seq := s.retAwait
      pollN := s.pollN + busy.length
      statusReg := b
      statusAnswers := rest
      trace := s.trace ++ (busy ++ [b]).map (Obs.read s.params.ctrlPort) }

/-- R104, R191: a wait none of whose `POLL_BOUND` reads shows the bit makes exactly those reads, reports one POLL_TIMEOUT and
returns all the same. -/
def Obligations.WaitDegradesAfterBound : Prop :=
  ∀ (s : State) (busy rest : List Byte),
    isQuiescent s.mode = false → Undisturbed s → s.seq = .A1 → s.pollN = 0 →
    s.statusAnswers = busy ++ rest → busy.length = s.params.pollBound → (∀ a ∈ busy, waitMet s.dir a = false) →
    ∃ t, runSteps (s.params.pollBound + 1) s = .next t ∧
      t.seq = s.retAwait ∧ t.mode = s.mode ∧ t.driverState = s.driverState ∧
      t.diags = s.diags ++ [.pollTimeout s.dir] ∧
      t.trace = s.trace ++ busy.map (Obs.read s.params.ctrlPort) ∧
      t.statusAnswers = rest ∧ t.dataAnswers = s.dataAnswers

/-- R105 (a), (e), (f): whatever the environment answers, a wait comes to its end after at most `POLL_BOUND` status reads, makes
no data-port access and no write, and changes no Driver State. -/
def Obligations.WaitAlwaysEnds : Prop :=
  ∀ s : State, isQuiescent s.mode = false → Undisturbed s → s.seq = .A1 → s.pollN ≤ s.params.pollBound →
    ∃ k t, k ≤ s.params.pollBound - s.pollN + 1 ∧ runSteps k s = .next t ∧
      t.seq = s.retAwait ∧ t.mode = s.mode ∧ t.driverState = s.driverState ∧ t.dataAnswers = s.dataAnswers ∧
      ∃ reads : List Byte, t.trace = s.trace ++ reads.map (Obs.read s.params.ctrlPort) ∧
        reads.length ≤ s.params.pollBound - s.pollN

/-! ## The acknowledgement and SEND_DEVICE_COMMAND -/

/-- R110, R113, the step `S6`: a data read; 0xFA on all eight bits returns, any other byte is discarded and `S6` is next again. -/
def Obligations.AckResult : Prop :=
  ∀ (s : State) (b : Byte) (rest : List Byte), s.dataAnswers = b :: rest →
    exec .ack s = .next { s with
      dataReg := b
      dataAnswers := rest
      trace := s.trace ++ [.read s.params.dataPort b]
      seq := if b = 0xFA then s.retSend else .S6 }

/-- R113 (a) to (d): the loop reads without looking at the status, discards every other byte for good and returns at the first
0xFA, consuming it. -/
def Obligations.AckLoopDiscardsUntilAck : Prop :=
  ∀ (s : State) (junk rest : List Byte),
    isQuiescent s.mode = false → Undisturbed s → s.seq = .S6 →
    s.dataAnswers = junk ++ 0xFA :: rest → (0xFA : Byte) ∉ junk →
    runSteps (junk.length + 1) s = .next { s with
      seq := s.retSend
      dataReg := 0xFA
      dataAnswers := rest
      trace := s.trace ++ (junk ++ [0xFA]).map (Obs.read s.params.dataPort) }

/-- R113 (e), R227: as long as no data answer is 0xFA the block stays at `S6` in `INIT`, for any number of reads; nothing but the
reads happens. -/
def Obligations.AckLoopStallsWithoutAck : Prop :=
  ∀ (s : State) (junk rest : List Byte),
    s.mode = .init → Undisturbed s → s.seq = .S6 → s.dataAnswers = junk ++ rest → (0xFA : Byte) ∉ junk →
    ∃ t, runSteps junk.length s = .next t ∧ t.mode = .init ∧ t.seq = .S6 ∧ t.driverState = s.driverState ∧
      t.trace = s.trace ++ junk.map (Obs.read s.params.dataPort) ∧ t.diags = s.diags

/-- R110, R141: SEND_DEVICE_COMMAND from its call to its return, each wait met at its first read: route byte, command byte, then
data reads up to and including the first 0xFA. -/
def Obligations.SendDeviceCommandRun : Prop :=
  ∀ (s : State) (c a₁ a₂ a₃ : Byte) (junk stat rest : List Byte),
    s.mode = .init → Undisturbed s → 0 < s.params.pollBound →
    (s.seq = .I5 ∧ c = 0xF6 ∨ s.seq = .I6 ∧ c = 0xF4) →
    a₁.getLsbD 1 = false → a₂.getLsbD 1 = false → a₃.getLsbD 0 = true →
    s.statusAnswers = a₁ :: a₂ :: a₃ :: stat → s.dataAnswers = junk ++ 0xFA :: rest → (0xFA : Byte) ∉ junk →
    ∃ t, runSteps (junk.length + 10) s = .next t ∧ t.mode = .init ∧ t.seq = nextLabel s.seq ∧
      t.driverState = s.driverState ∧ t.cfg = s.cfg ∧ t.diags = s.diags ∧
      t.statusAnswers = stat ∧ t.dataAnswers = rest ∧
      t.trace = s.trace ++
        ([.read s.params.ctrlPort a₁, .write s.params.ctrlPort 0xD4, .read s.params.ctrlPort a₂,
          .write s.params.dataPort c, .read s.params.ctrlPort a₃] ++
          (junk ++ [0xFA]).map (Obs.read s.params.dataPort))

/-! ## INIT -/

/-- R132: ZERO_STATE zeroes the four items of Driver State, so every slot reads 0x00 and the phase is 0, and changes nothing
else. -/
def Obligations.ZeroStateResult : Prop :=
  ∀ s : State, ∃ t, exec .zeroState s = .next t ∧ (∀ i : Slot, t.packetBuffer.read i = 0x00) ∧ t.phase = 0 ∧
    t = { s with cumulativeX := 0, cumulativeY := 0, bytesReceived := 0, packetBuffer := t.packetBuffer }

/-- R139: ENABLE_IRQ_LINE is one `EnableIrq(IRQ_INDEX, IRQ_TARGET)` record and nothing else. -/
def Obligations.EnableIrqLineResult : Prop :=
  ∀ s : State, exec .enableIrqLine s =
    .next { s with trace := s.trace ++ [.enableIrq s.params.irqIndex s.params.irqTarget] }

/-- R134, R135, R136: `I2d` takes the configuration byte, `I3` forces its bit 1 to 1 and keeps the other seven, `I4d` writes it
back to `DATA_PORT`. -/
def Obligations.ConfigurationByteSteps : Prop :=
  ∀ s : State, s.mode = .init → Undisturbed s →
    (∀ c rest, s.seq = .I2d → s.dataAnswers = c :: rest → ∃ t, step s = .next t ∧ t.cfg = c ∧ t.seq = .I3 ∧
      t.trace = s.trace ++ [.read s.params.dataPort c] ∧ t.dataAnswers = rest) ∧
    (s.seq = .I3 → ∃ t, step s = .next t ∧ t = { s with cfg := t.cfg, seq := .I4a } ∧ t.cfg.getLsbD 1 = true ∧
      ∀ i, i ≠ 1 → t.cfg.getLsbD i = s.cfg.getLsbD i) ∧
    (s.seq = .I4d → step s = .next { s with trace := s.trace ++ [.write s.params.dataPort s.cfg], seq := .I5 })

/-- R28, R201: a busy block's step is the one `seq` names: the operations R28 gives the label, each by its meaning, then the
label's own action. -/
def Obligations.BusyStepRunsItsLabel : Prop :=
  ∀ s : State, isQuiescent s.mode = false → Undisturbed s →
    step s = andThen (execAll (s.labelOps s.seq) s) (fun t => .next (t.finishLabel s.seq)) ∧
    s.labelOps .I0 = [.zeroState] ∧
    (∀ l ∈ [Label.I1a, .I2a, .I4a, .I4c, .S1, .S3], s.labelOps l = [.awaitReady .send]) ∧
    (∀ l ∈ [Label.I2c, .S5, .H1], s.labelOps l = [.awaitReady .recv]) ∧
    s.labelOps .I1b = [.auxEnable] ∧ s.labelOps .I2b = [.cfgRead] ∧ s.labelOps .I2d = [.dataRead] ∧
    s.labelOps .I4b = [.cfgWrite] ∧ s.labelOps .I4d = [.dataWrite s.cfg] ∧
    s.labelOps .I5 = [.devSetDefaults] ∧ s.labelOps .I6 = [.devEnableStream] ∧ s.labelOps .I7 = [.enableIrqLine] ∧
    s.labelOps .S2 = [.auxRoute] ∧ s.labelOps .S4 = [.dataWrite s.cmd] ∧ s.labelOps .S6 = [.ack] ∧
    s.labelOps .H2 = [.statusRead] ∧ s.labelOps .H3 = [.dataRead] ∧ s.labelOps .H4 = [.storeByte] ∧
    (s.bytesReceived % 3 = 0 → s.labelOps .H6 = [.decode, .emit, .accUpdate]) ∧
    (s.bytesReceived % 3 ≠ 0 → s.labelOps .H6 = []) ∧
    (∀ l ∈ [Label.I3, .I8, .H5, .H7], s.labelOps l = [])

/-- R201, R242: a busy block always has a step: it is never stuck, and its step is no stop. -/
def Obligations.BusyBlockIsNeverStuck : Prop :=
  ∀ s : State, isQuiescent s.mode = false → s.schedule = [] → ∃ t, step s = .next t

/-- R130, R131: an accepted INIT has, from that point of the trace, made nothing yet. -/
def Obligations.InitStartsInitialising : Prop :=
  ∀ s t : State, isQuiescent s.mode = true → exec .init s = .next t → Initialising s.trace t

/-- R141: INIT's writes, data reads and `EnableIrq` stay, at every step, exactly those of R141 up to its position, whatever the
environment answers; the step that ends it in `ARMED` leaves exactly the eight writes in order, the data reads in their shape,
and one `EnableIrq`. -/
def Obligations.InitAccessOrderKept : Prop :=
  ∀ (before : List Obs) (s t : State), Coherent s → Initialising before s → s.resetReq = false → step s = .next t →
    (t.mode = .init ∧ Initialising before t) ∨ (s.seq = .I8 ∧ Initialised before t)

/-- R143: nothing in INIT blocks but the acknowledgement loop: from any point of INIT before `S6` the block reaches `S6` or
`ARMED` within a bounded number of steps, whatever is answered. -/
def Obligations.InitBlocksOnlyAtAck : Prop :=
  ∀ s : State, Coherent s → s.mode = .init → Undisturbed s →
    ∃ k t, k ≤ 8 * s.params.pollBound + 40 ∧ runSteps k s = .next t ∧
      (t.mode = .armed ∨ (t.mode = .init ∧ t.seq = .S6))

/-- R131, R140, R142 and program P1: a cooperative INIT, from `OFF` or `ARMED`, for every configuration byte and every positive
bound: the whole trace of P1 with `c` for its configuration byte (the data reads are `c`, 0xFA, 0xFA), Driver State zero,
`ARMED`, no `diag`. -/
def Obligations.CooperativeInitRun : Prop :=
  ∀ (s : State) (c : Byte), isQuiescent s.mode = true → Undisturbed s → s.initReq = true → s.irqReq = false →
    0 < s.params.pollBound → s.params.wf = true →
    s.statusAnswers = (Asked.initOk c).status → s.dataAnswers = (Asked.initOk c).data →
    let ctrl := s.params.ctrlPort
    let data := s.params.dataPort
    ∃ t, runSteps 40 s = .next t ∧ t.mode = .armed ∧ t.bytesReceived = 0 ∧ t.cumulativeX = 0 ∧ t.cumulativeY = 0 ∧
      (∀ i : Slot, t.packetBuffer.read i = 0x00) ∧ t.diags = s.diags ∧ t.initReq = false ∧
      Initialised s.trace t ∧
      t.trace = s.trace ++
        [.read ctrl 0x00, .write ctrl 0xA8,
         .read ctrl 0x00, .write ctrl 0x20, .read ctrl 0x01, .read data c,
         .read ctrl 0x00, .write ctrl 0x60, .read ctrl 0x00, .write data (c ||| 0x02),
         .read ctrl 0x00, .write ctrl 0xD4, .read ctrl 0x00, .write data 0xF6, .read ctrl 0x01, .read data 0xFA,
         .read ctrl 0x00, .write ctrl 0xD4, .read ctrl 0x00, .write data 0xF4, .read ctrl 0x01, .read data 0xFA,
         .enableIrq s.params.irqIndex s.params.irqTarget]

/-! ## HANDLE_IRQ -/

/-- R156: STORE_BYTE puts `B` in the slot of the phase before the increment and leaves the other two slots and everything else
alone. -/
def Obligations.StoreByteResult : Prop :=
  ∀ s : State, s.packetBuffer.wf = true → ∃ t, exec .storeByte s = .next t ∧
    t = { s with packetBuffer := t.packetBuffer } ∧ t.packetBuffer.wf = true ∧
    t.packetBuffer.read (phaseOf s.bytesReceived) = s.dataReg ∧
    ∀ i : Slot, i ≠ phaseOf s.bytesReceived → t.packetBuffer.read i = s.packetBuffer.read i

/-- R154, R155, the steps `H2` and `H3`: a fresh status read; with its bit 0 clear the block goes to `H7` and reads no data, with
it set it goes to `H3`, which reads exactly one byte. -/
def Obligations.SpuriousTestStep : Prop :=
  ∀ s : State, s.mode = .service → Undisturbed s →
    (∀ b rest, s.seq = .H2 → s.statusAnswers = b :: rest → step s = .next { s with
      statusReg := b
      statusAnswers := rest
      trace := s.trace ++ [.read s.params.ctrlPort b]
      seq := if b.getLsbD 0 = true then .H3 else .H7 }) ∧
    (∀ b rest, s.seq = .H3 → s.dataAnswers = b :: rest → step s = .next { s with
      dataReg := b
      dataAnswers := rest
      trace := s.trace ++ [.read s.params.dataPort b]
      seq := .H4 })

/-- R157, R22, R233, the step `H5`: the count grows by one; a finite `CNT_W` wraps it at `2^CNT_W`, which is never a multiple of
3; at ∞ the phase advances 0 to 1 to 2 to 0. -/
def Obligations.CountStep : Prop :=
  ∀ s : State, s.mode = .service → Undisturbed s → s.seq = .H5 →
    ∃ t, step s = .next t ∧ t = { s with bytesReceived := t.bytesReceived, seq := .H6 } ∧
      (s.params.cntW = none → t.bytesReceived = s.bytesReceived + 1 ∧ t.phase = s.phase + 1) ∧
      (∀ w, s.params.cntW = some w → t.bytesReceived = (s.bytesReceived + 1) % 2 ^ w ∧ 2 ^ w % 3 ≠ 0)

/-- R158, the step `H6`: with the count a multiple of 3 exactly one event, the decoding of the three slots, and the accumulators'
update; otherwise nothing is decoded or emitted. -/
def Obligations.PacketCompletionStep : Prop :=
  ∀ s : State, s.mode = .service → Undisturbed s → s.seq = .H6 →
    (s.bytesReceived % 3 ≠ 0 → step s = .next { s with seq := .H7 }) ∧
    (s.bytesReceived % 3 = 0 →
      let e := eventOf (s.packetBuffer.read 0) (s.packetBuffer.read 1) (s.packetBuffer.read 2)
      step s = .next { s with
        packet := e
        trace := s.trace ++ [.emit e]
        cumulativeX := accumulate s.params.accMode s.cumulativeX e.dx
        cumulativeY := accumulate s.params.accMode s.cumulativeY e.dy
        seq := .H7 })

/-- R151 to R158: one notification with a byte ready is one invocation that consumes exactly that byte: it is stored at the
phase, counted, and completes a packet exactly when it went to slot 2. -/
def Obligations.ByteServiceRun : Prop :=
  ∀ (s : State) (a₁ a₂ b : Byte) (stat rest : List Byte),
    s.mode = .armed → Undisturbed s → s.irqReq = true → s.initReq = false → 0 < s.params.pollBound →
    s.packetBuffer.wf = true → s.params.cntW = none →
    a₁.getLsbD 0 = true → a₂.getLsbD 0 = true → s.statusAnswers = a₁ :: a₂ :: stat → s.dataAnswers = b :: rest →
    ∃ t, runSteps 9 s = .next t ∧ t.mode = .armed ∧ t.irqReq = false ∧ t.bytesReceived = s.bytesReceived + 1 ∧
      t.packetBuffer.read s.phase = b ∧
      (∀ i : Slot, i ≠ s.phase → t.packetBuffer.read i = s.packetBuffer.read i) ∧
      t.statusAnswers = stat ∧ t.dataAnswers = rest ∧ t.diags = s.diags ∧
      t.trace = s.trace ++
        ([.read s.params.ctrlPort a₁, .read s.params.ctrlPort a₂, .read s.params.dataPort b] ++
          if s.phase = 2 then [.emit (eventOf (s.packetBuffer.read 0) (s.packetBuffer.read 1) b)] else [])

/-- R154: a spurious notification: the wait degrades after `POLL_BOUND` reads, the fresh read shows no byte, and the invocation
ends with Driver State, the phase and the events as they were, no data read made, one `diag`. -/
def Obligations.SpuriousServiceRun : Prop :=
  ∀ (s : State) (busy : List Byte) (b : Byte) (rest : List Byte),
    s.mode = .armed → Undisturbed s → s.irqReq = true → s.initReq = false →
    s.statusAnswers = busy ++ b :: rest → busy.length = s.params.pollBound →
    (∀ a ∈ busy, a.getLsbD 0 = false) → b.getLsbD 0 = false →
    ∃ t, runSteps (s.params.pollBound + 5) s = .next t ∧ t.mode = .armed ∧ t.irqReq = false ∧
      t.driverState = s.driverState ∧ t.statusAnswers = rest ∧ t.dataAnswers = s.dataAnswers ∧
      t.trace = s.trace ++ (busy ++ [b]).map (Obs.read s.params.ctrlPort) ∧
      t.diags = s.diags ++ [.pollTimeout .recv]

/-- R162: every invocation of HANDLE_IRQ, from any point of it and whatever is answered, returns to `ARMED` after at most
`POLL_BOUND + 1` status reads and at most one data read. -/
def Obligations.HandlerAlwaysReturns : Prop :=
  ∀ s : State, Coherent s → s.mode = .service → Undisturbed s →
    ∃ k t since, k ≤ s.params.pollBound + 8 ∧ runSteps k s = .next t ∧ t.mode = .armed ∧
      t.trace = s.trace ++ since ∧ (readsAt s.params.ctrlPort since).length ≤ s.params.pollBound + 1 ∧
      (readsAt s.params.dataPort since).length ≤ 1 ∧ (eventsOf since).length ≤ 1 ∧ writesOf since = []

/-- R159, R160: framing: from phase 0 in `ARMED`, and as long as the block stays in `ARMED` and `SERVICE`, every step keeps the
events equal to the packets of the bytes consumed, three consecutive bytes each in arrival order, and the slots equal to the
last bytes stored, spurious invocations and other agents' moves included. -/
def Obligations.FramingKept : Prop :=
  ∀ (before : List Obs) (s t : State), Coherent s → Framed before s → step s = .next t →
    (t.mode = .armed ∨ t.mode = .service) → Framed before t

/-- R159: framing starts wherever an armed block is at phase 0 and has an unbounded counter. -/
def Obligations.FramingStartsAtPhaseZero : Prop :=
  ∀ s : State, s.mode = .armed → s.params.cntW = none → s.phase = 0 → Framed s.trace s

/-- R159, R160: what framing says between invocations: `N` bytes consumed make `N / 3` events, the packets of those bytes in
order, and phase `N mod 3`; at phase 0 the slots are the last packet's three bytes. -/
def Obligations.FramingBetweenInvocations : Prop :=
  ∀ (before : List Obs) (s : State), Framed before s → s.mode = .armed →
    ∃ since, s.trace = before ++ since ∧
      eventsOf since = packetsOf (readsAt s.params.dataPort since) ∧
      (eventsOf since).length = (readsAt s.params.dataPort since).length / 3 ∧
      s.phase.val = (readsAt s.params.dataPort since).length % 3 ∧
      ∀ pre f x y, readsAt s.params.dataPort since = pre ++ [f, x, y] → s.phase = 0 →
        s.packetBuffer.read 0 = f ∧ s.packetBuffer.read 1 = x ∧ s.packetBuffer.read 2 = y

/-! ## Decoding, events and accumulators -/

/-- R170 to R173: DECODE takes the buttons from flags bits 0, 1 and 2 and each delta as the unsigned magnitude negated by its sign
bit, and changes no register but the packet it hands on. -/
def Obligations.DecodeResult : Prop :=
  ∀ s : State, ∃ t, exec .decode s = .next t ∧ t = { s with packet := t.packet } ∧
    t.packet.left = (s.packetBuffer.read 0).getLsbD 0 ∧
    t.packet.right = (s.packetBuffer.read 0).getLsbD 1 ∧
    t.packet.middle = (s.packetBuffer.read 0).getLsbD 2 ∧
    t.packet.dx = (if (s.packetBuffer.read 0).getLsbD 4 then -((s.packetBuffer.read 1).toNat : Int)
      else ((s.packetBuffer.read 1).toNat : Int)) ∧
    t.packet.dy = (if (s.packetBuffer.read 0).getLsbD 5 then -((s.packetBuffer.read 2).toNat : Int)
      else ((s.packetBuffer.read 2).toNat : Int))

/-- R174: two flags bytes that differ only in bits 3, 6 and 7 decode alike. -/
def Obligations.DecodeIgnoresUnusedFlagBits : Prop :=
  ∀ f g x y : Byte, (∀ i ∈ [0, 1, 2, 4, 5], f.getLsbD i = g.getLsbD i) → eventOf f x y = eventOf g x y

/-- R79, R80: a delta lies in -255 to 255, and R80's 9-bit carrier holds it in two's complement. -/
def Obligations.DeltaFitsNineBits : Prop :=
  ∀ (negative : Bool) (m : Byte),
    -255 ≤ delta negative m ∧ delta negative m ≤ 255 ∧ (deltaCarrier negative m).toInt = delta negative m

/-- R175: EMIT is one event record of the decoded packet and nothing else. -/
def Obligations.EmitResult : Prop :=
  ∀ s : State, exec .emit s = .next { s with trace := s.trace ++ [.emit s.packet] }

/-- R176: ACC_UPDATE by `ACC_MODE`: addition modulo 2^16 of the delta in 16-bit two's complement, the delta alone, or nothing. -/
def Obligations.AccUpdateResult : Prop :=
  ∀ s : State, ∃ t, exec .accUpdate s = .next t ∧
    t = { s with cumulativeX := t.cumulativeX, cumulativeY := t.cumulativeY } ∧
    (s.params.accMode = .add →
      (t.cumulativeX.toNat : Int) = (s.cumulativeX.toNat + s.packet.dx) % 2 ^ 16 ∧
      (t.cumulativeY.toNat : Int) = (s.cumulativeY.toNat + s.packet.dy) % 2 ^ 16) ∧
    (s.params.accMode = .assign →
      (t.cumulativeX.toNat : Int) = s.packet.dx % 2 ^ 16 ∧ (t.cumulativeY.toNat : Int) = s.packet.dy % 2 ^ 16) ∧
    (s.params.accMode = .dead → t.cumulativeX = s.cumulativeX ∧ t.cumulativeY = s.cumulativeY)

/-! ## The whole machine -/

/-- R21, R22, R26 to R28, R52, R81, R177: every step keeps the shape of a state.
DEDUCED: the shape is read from these rules (log entry 26). -/
def Obligations.CoherenceKept : Prop :=
  ∀ s t : State, Coherent s → step s = .next t → Coherent t

/-- The machine right after reset has the shape of a state.
MODEL'S CHOICE: the values at reset (log entry 3). -/
def Obligations.ResetStateIsCoherent : Prop := Coherent State.reset

/-- R20, R25: Driver State is written by RESET, by `I0` and by the handler's `H4`, `H5` and `H6`, and by nothing else. -/
def Obligations.DriverStateSingleWriter : Prop :=
  ∀ s t : State, step s = .next t → t.driverState ≠ s.driverState →
    s.resetReq = true ∨ (isQuiescent s.mode = false ∧ s.seq ∈ [Label.I0, .H4, .H5, .H6])

/-- R50, R55, R156: no operation touches a slot of the packet buffer but RESET, ZERO_STATE and STORE_BYTE, and none touches the
parameters. -/
def Obligations.OnlyStoresTouchTheBuffer : Prop :=
  ∀ (i : Instr) (s t : State), exec i s = .next t → t.params = s.params ∧
    (i ∉ [Instr.reset, .zeroState, .storeByte] → ∀ j : Slot, t.packetBuffer.read j = s.packetBuffer.read j)

/-- R8, R35, R60: a step adds at most one record to the trace and at most one `diag`, rewrites none, and changes no parameter.
MODEL'S CHOICE: both outputs are kept in the state (log entry 15). -/
def Obligations.OneAccessAStep : Prop :=
  ∀ s t : State, step s = .next t → t.params = s.params ∧
    ∃ since diags, t.trace = s.trace ++ since ∧ since.length ≤ 1 ∧ t.diags = s.diags ++ diags ∧ diags.length ≤ 1

/-- R58, R84 (a): every byte the block writes is one of the four controller commands on `CTRL_PORT`, or on `DATA_PORT` a device
command or a byte with bit 1 set. -/
def Obligations.OnlySpecifiedBytesWritten : Prop :=
  ∀ (s t : State) (since : List Obs) (a : Nat) (v : Byte), Coherent s → step s = .next t →
    t.trace = s.trace ++ since → (a, v) ∈ writesOf since →
    (a = s.params.ctrlPort ∧ v ∈ controllerCommands) ∨
    (a = s.params.dataPort ∧ (v ∈ deviceCommands ∨ v.getLsbD 1 = true))

/-! ## Encoding -/

/-- R70 to R73, R82, R83: decoding an operation's bytes gives it back with the rest untouched, whatever follows; bytes that
decode are the encoding of what they decode to; and exactly the micro-operations and internal steps of R83 have no encoding.
MODEL'S CHOICE: one decoder for all formats, and the request vector in the low bits of a byte (log entry 18). -/
def Obligations.EncodeDecodeAgree : Prop :=
  (∀ (i : Instr) (bs rest : List Byte), encode i = some bs → Sys2Proof.decode (bs ++ rest) = .ok (i, rest)) ∧
  (∀ (bs rest : List Byte) (i : Instr), Sys2Proof.decode bs = .ok (i, rest) →
    ∃ code, encode i = some code ∧ bs = code ++ rest ∧ i.wf = true) ∧
  (∀ i : Instr, encode i = none ↔
    i ∈ [Instr.statusRead, .dataRead, .zeroState, .enableIrqLine, .storeByte, .decode, .emit, .accUpdate] ∨
    (∃ v, i = .ctrlWrite v) ∨ (∃ v, i = .dataWrite v) ∨ (∃ d, i = .awaitReady d) ∨ (∃ c, i = .sendDeviceCommand c))

/-- R71 to R73, R82: the ten encoded rows of the operation table, each word with its operation, and words that are none.
MODEL'S CHOICE: one decoder for all formats, and the request vector in the low bits of a byte (log entry 18). -/
def Obligations.TableWordsDecode : Prop :=
  (decodeTableWord 3 0b100 = some .reset ∧ decodeTableWord 3 0b010 = some .init ∧
    decodeTableWord 3 0b001 = some .handleIrq) ∧
  (decodeTableWord 8 0xA8 = some .auxEnable ∧ decodeTableWord 8 0x20 = some .cfgRead ∧
    decodeTableWord 8 0x60 = some .cfgWrite ∧ decodeTableWord 8 0xD4 = some .auxRoute) ∧
  (decodeTableWord 8 0xF6 = some .devSetDefaults ∧ decodeTableWord 8 0xF4 = some .devEnableStream) ∧
  decodeTableWord 8 0xFA = some .ack ∧
  decodeTableWord 8 0xFE = none ∧ decodeTableWord 3 0b011 = none

/-- R82, R88, R201: where a word decodes to an operation, the next step of the machine it is placed in runs that operation by its
meaning, and then, for an operation that stands at a label of R28, that label's own action.
MODEL'S CHOICE: where an operation is placed (log entry 19). -/
def Obligations.StepRunsDecodedOperation : Prop :=
  ∀ (s : State) (nbits w : Nat) (i : Instr), decodeTableWord nbits w = some i →
    let p := { s.withFetchWord nbits w with schedule := s.schedule }
    step (s.withFetchWord nbits w) =
      match labelOf i with
      | none => exec i p
      | some l => andThen (exec i p) (fun t => .next (t.finishLabel l))

/-! ## The named premises -/

/-- R244, its column "needed for", with R63, R143, R200, R225, R226: what each premise gives.  `P_EXCLUSIVE` and `P_SERIAL`: the
run never stops.  `P_ACK`: INIT ends in `ARMED`.  `P_NO_DEGRADE`: no `diag`.  `P_NO_LOSS` and `P_ALIGNED`: between invocations
the events are the packets the device sent after INIT, in order.
MODEL'S CHOICE: the premises are read of the run from a state (log entry 28), and a broken one is a refusal (log entry 16). -/
def Obligations.NamedPremisesGiveTheirClaims : Prop :=
  ∀ s : State, Coherent s →
    (PExclusive s → PSerial s → ∀ k, ∃ t, runSteps k s = .next t) ∧
    (s.mode = .init → Undisturbed s → PAck s → ∃ k t, runSteps k s = .next t ∧ t.mode = .armed) ∧
    (PNoDegrade s → ∀ t, Visits s t → t.diags = s.diags) ∧
    (s.params.cntW = none → ∀ d k t, PNoLoss d s k → PAligned d s k → runSteps k s = .next t → t.mode = .armed →
      eventsOf (traceSince s t) = (packetsOf d.stream).drop (d.sentBefore / 3))
end

