-- ==== Sys2Proof/Laws/Memory.lean ====
section
/-! SUPPORT. The packet buffer: a read after a write, the other slots, and the canonical form. -/

namespace Sys2Proof.Machine

/-- Every address listed in a canonical list's tail lies above its head's. -/
theorem Memory.wf_cons {a : Nat} {v : Byte} {rest : Memory} (h : Memory.wf ((a, v) :: rest) = true) :
    a < 3 ∧ v ≠ Memory.unlisted ∧ (∀ c ∈ rest, a < c.1) ∧ Memory.wf rest = true := by
  simp only [Memory.wf, Bool.and_eq_true, decide_eq_true_eq, Bool.not_eq_true', beq_eq_false_iff_ne,
    List.all_eq_true] at h
  exact ⟨h.1.1.1, h.1.1.2, h.1.2, h.2⟩

/-- The parts of the canonical form, put together. -/
theorem Memory.wf_of_cons {a : Nat} {v : Byte} {rest : Memory} (ha : a < 3) (hv : v ≠ Memory.unlisted)
    (hlt : ∀ c ∈ rest, a < c.1) (hw : Memory.wf rest = true) : Memory.wf ((a, v) :: rest) = true := by
  simp only [Memory.wf, Bool.and_eq_true, decide_eq_true_eq, Bool.not_eq_true', beq_eq_false_iff_ne, List.all_eq_true]
  exact ⟨⟨⟨ha, hv⟩, hlt⟩, hw⟩

/-- An address below every listed one reads as unlisted. -/
theorem Memory.readAt_below {m : Memory} {a : Nat} (h : ∀ c ∈ m, a < c.1) : m.readAt a = Memory.unlisted := by
  induction m with
  | nil => rfl
  | cons c rest ih =>
    obtain ⟨b, w⟩ := c
    have hb : a < b := h (b, w) (by simp)
    simp only [Memory.readAt, if_neg (by omega : a ≠ b)]
    exact ih fun c hc => h c (by simp [hc])

/-- A write lists no address but its own and those listed before. -/
theorem Memory.mem_writeAt {m : Memory} {a : Nat} {v : Byte} {c : Host.Cell} (h : c ∈ m.writeAt a v) :
    c = (a, v) ∨ c ∈ m := by
  induction m with
  | nil =>
    simp only [Memory.writeAt] at h
    split at h <;> simp_all
  | cons d rest ih =>
    obtain ⟨b, w⟩ := d
    simp only [Memory.writeAt] at h
    split at h
    · split at h <;> simp_all
    · split at h
      · split at h
        · simp_all
        · rcases List.mem_cons.1 h with h | h <;> simp_all
      · rcases List.mem_cons.1 h with rfl | h
        · simp
        · rcases ih h with rfl | h <;> simp_all

/-- A write keeps the canonical form. -/
theorem Memory.wf_writeAt {m : Memory} {a : Nat} {v : Byte} (ha : a < 3) (hm : m.wf = true) :
    (m.writeAt a v).wf = true := by
  induction m with
  | nil =>
    simp only [Memory.writeAt]
    split
    · rfl
    · exact Memory.wf_of_cons ha ‹_› (by simp) rfl
  | cons d rest ih =>
    obtain ⟨b, w⟩ := d
    obtain ⟨hb, hw, hlt, hrest⟩ := Memory.wf_cons hm
    simp only [Memory.writeAt]
    split
    · rename_i hab
      split
      · exact hm
      · refine Memory.wf_of_cons ha ‹_› (fun c hc => ?_) hm
        rcases List.mem_cons.1 hc with rfl | hc
        · exact hab
        · exact lt_trans hab (hlt c hc)
    · split
      · rename_i heq
        subst heq
        split
        · exact hrest
        · exact Memory.wf_of_cons ha ‹_› hlt hrest
      · refine Memory.wf_of_cons hb hw (fun c hc => ?_) (ih hrest)
        rcases Memory.mem_writeAt hc with rfl | hc
        · simp only; omega
        · exact hlt c hc

/-- In a canonical list, a read of the address written gives the byte written. -/
theorem Memory.readAt_writeAt_same {m : Memory} {a : Nat} {v : Byte} (hm : m.wf = true) :
    (m.writeAt a v).readAt a = v := by
  induction m with
  | nil =>
    simp only [Memory.writeAt]
    split <;> simp_all [Memory.readAt]
  | cons d rest ih =>
    obtain ⟨b, w⟩ := d
    obtain ⟨-, -, hlt, hrest⟩ := Memory.wf_cons hm
    simp only [Memory.writeAt]
    split
    · rename_i hab
      split
      · rename_i hv
        rw [hv]
        refine Memory.readAt_below fun c hc => ?_
        rcases List.mem_cons.1 hc with rfl | hc
        · exact hab
        · exact lt_trans hab (hlt c hc)
      · simp [Memory.readAt]
    · split
      · rename_i heq
        subst heq
        split
        · rename_i hv
          rw [hv]
          exact Memory.readAt_below hlt
        · simp [Memory.readAt]
      · rename_i hne
        simp only [Memory.readAt, if_neg hne]
        exact ih hrest

/-- A write leaves every other address alone. -/
theorem Memory.readAt_writeAt_other {m : Memory} {a b : Nat} {v : Byte} (hne : b ≠ a) :
    (m.writeAt a v).readAt b = m.readAt b := by
  induction m with
  | nil =>
    simp only [Memory.writeAt]
    split <;> simp [Memory.readAt, hne]
  | cons d rest ih =>
    obtain ⟨c, w⟩ := d
    simp only [Memory.writeAt]
    split
    · split <;> simp [Memory.readAt, hne]
    · split
      · rename_i heq
        subst heq
        split <;> simp [Memory.readAt, hne]
      · simp only [Memory.readAt, ih]

/-- `PB[i]` after `PB[i] <- v`. -/
theorem Memory.read_write_same {m : Memory} {i : Slot} {v : Byte} (hm : m.wf = true) : (m.write i v).read i = v :=
  Memory.readAt_writeAt_same hm

/-- `PB[j]` after a write of another slot. -/
theorem Memory.read_write_other {m : Memory} {i j : Slot} {v : Byte} (hne : j ≠ i) :
    (m.write i v).read j = m.read j :=
  Memory.readAt_writeAt_other fun h => hne (Fin.ext h)

/-- Storing a slot keeps the canonical form. -/
theorem Memory.wf_write {m : Memory} {i : Slot} {v : Byte} (hm : m.wf = true) : (m.write i v).wf = true :=
  Memory.wf_writeAt i.isLt hm

@[simp] theorem Memory.wf_zeroed : Memory.zeroed.wf = true := rfl

@[simp] theorem Memory.read_zeroed (i : Slot) : Memory.zeroed.read i = 0x00 := rfl

/-- RESET leaves a canonical buffer. -/
theorem State.loseRegisters_wf (s : State) : s.loseRegisters.packetBuffer.wf = true :=
  Memory.wf_write (Memory.wf_write (Memory.wf_write Memory.wf_zeroed))

end Sys2Proof.Machine
end

