-- ==== Sys2Proof/Laws/PerInstr.lean ====
section
/-! SUPPORT. A fact of every operation, one lemma a constructor: its encoding, where it has one, is one byte (R70, R83), and an
encoded operation has no operand to be ill-formed. -/

namespace Sys2Proof.Laws.OneByteCode

/-- An operation's encoding is a single byte, and an encoded operation is well-formed. -/
def Statement (i : Instr) : Prop := ∀ bs, encode i = some bs → bs.length = 1 ∧ i.wf = true

/-- An operation with a one-byte code. -/
theorem of_code {i : Instr} {b : Byte} (he : encode i = some [b]) (hw : i.wf = true) : Statement i := by
  intro bs h
  rw [he] at h
  cases h
  exact ⟨rfl, hw⟩

/-- An operation without encoding (R83). -/
theorem of_none {i : Instr} (he : encode i = none) : Statement i := by
  intro bs h
  rw [he] at h
  cases h

theorem reset : Statement .reset := of_code rfl rfl
theorem init : Statement .init := of_code rfl rfl
theorem handleIrq : Statement .handleIrq := of_code rfl rfl
theorem statusRead : Statement .statusRead := of_none rfl
theorem ctrlWrite (v : Byte) : Statement (.ctrlWrite v) := of_none rfl
theorem dataWrite (v : Byte) : Statement (.dataWrite v) := of_none rfl
theorem dataRead : Statement .dataRead := of_none rfl
theorem awaitReady (d : Dir) : Statement (.awaitReady d) := of_none rfl
theorem sendDeviceCommand (c : Byte) : Statement (.sendDeviceCommand c) := of_none rfl
theorem auxEnable : Statement .auxEnable := of_code rfl rfl
theorem cfgRead : Statement .cfgRead := of_code rfl rfl
theorem cfgWrite : Statement .cfgWrite := of_code rfl rfl
theorem auxRoute : Statement .auxRoute := of_code rfl rfl
theorem devSetDefaults : Statement .devSetDefaults := of_code rfl rfl
theorem devEnableStream : Statement .devEnableStream := of_code rfl rfl
theorem ack : Statement .ack := of_code rfl rfl
theorem zeroState : Statement .zeroState := of_none rfl
theorem enableIrqLine : Statement .enableIrqLine := of_none rfl
theorem storeByte : Statement .storeByte := of_none rfl
theorem decode : Statement .decode := of_none rfl
theorem emit : Statement .emit := of_none rfl
theorem accUpdate : Statement .accUpdate := of_none rfl

end Sys2Proof.Laws.OneByteCode
end

