-- ==== Sys2Proof/Laws/State.lean ====
section
/-! SUPPORT. What each shared update of the state leaves in each field, one lemma a field. -/

namespace Sys2Proof.Machine

/-! ## The sequencer's next label -/

@[simp] theorem State.goto_params (s : State) (l : Label) : (s.goto l).params = s.params := rfl
@[simp] theorem State.goto_packetBuffer (s : State) (l : Label) : (s.goto l).packetBuffer = s.packetBuffer := rfl
@[simp] theorem State.goto_bytesReceived (s : State) (l : Label) : (s.goto l).bytesReceived = s.bytesReceived := rfl
@[simp] theorem State.goto_cumulativeX (s : State) (l : Label) : (s.goto l).cumulativeX = s.cumulativeX := rfl
@[simp] theorem State.goto_cumulativeY (s : State) (l : Label) : (s.goto l).cumulativeY = s.cumulativeY := rfl
@[simp] theorem State.goto_mode (s : State) (l : Label) : (s.goto l).mode = s.mode := rfl
@[simp] theorem State.goto_seq (s : State) (l : Label) : (s.goto l).seq = l := rfl
@[simp] theorem State.goto_retAwait (s : State) (l : Label) : (s.goto l).retAwait = s.retAwait := rfl
@[simp] theorem State.goto_retSend (s : State) (l : Label) : (s.goto l).retSend = s.retSend := rfl
@[simp] theorem State.goto_pollN (s : State) (l : Label) : (s.goto l).pollN = s.pollN := rfl
@[simp] theorem State.goto_dir (s : State) (l : Label) : (s.goto l).dir = s.dir := rfl
@[simp] theorem State.goto_statusReg (s : State) (l : Label) : (s.goto l).statusReg = s.statusReg := rfl
@[simp] theorem State.goto_dataReg (s : State) (l : Label) : (s.goto l).dataReg = s.dataReg := rfl
@[simp] theorem State.goto_cfg (s : State) (l : Label) : (s.goto l).cfg = s.cfg := rfl
@[simp] theorem State.goto_cmd (s : State) (l : Label) : (s.goto l).cmd = s.cmd := rfl
@[simp] theorem State.goto_packet (s : State) (l : Label) : (s.goto l).packet = s.packet := rfl
@[simp] theorem State.goto_resetReq (s : State) (l : Label) : (s.goto l).resetReq = s.resetReq := rfl
@[simp] theorem State.goto_initReq (s : State) (l : Label) : (s.goto l).initReq = s.initReq := rfl
@[simp] theorem State.goto_irqReq (s : State) (l : Label) : (s.goto l).irqReq = s.irqReq := rfl
@[simp] theorem State.goto_schedule (s : State) (l : Label) : (s.goto l).schedule = s.schedule := rfl
@[simp] theorem State.goto_arbiter (s : State) (l : Label) : (s.goto l).arbiter = s.arbiter := rfl
@[simp] theorem State.goto_statusAnswers (s : State) (l : Label) : (s.goto l).statusAnswers = s.statusAnswers := rfl
@[simp] theorem State.goto_dataAnswers (s : State) (l : Label) : (s.goto l).dataAnswers = s.dataAnswers := rfl
@[simp] theorem State.goto_draws (s : State) (l : Label) : (s.goto l).draws = s.draws := rfl
@[simp] theorem State.goto_trace (s : State) (l : Label) : (s.goto l).trace = s.trace := rfl
@[simp] theorem State.goto_diags (s : State) (l : Label) : (s.goto l).diags = s.diags := rfl

/-! ## A record on the trace -/

@[simp] theorem State.record_params (s : State) (o : Obs) : (s.record o).params = s.params := rfl
@[simp] theorem State.record_packetBuffer (s : State) (o : Obs) : (s.record o).packetBuffer = s.packetBuffer := rfl
@[simp] theorem State.record_bytesReceived (s : State) (o : Obs) : (s.record o).bytesReceived = s.bytesReceived := rfl
@[simp] theorem State.record_cumulativeX (s : State) (o : Obs) : (s.record o).cumulativeX = s.cumulativeX := rfl
@[simp] theorem State.record_cumulativeY (s : State) (o : Obs) : (s.record o).cumulativeY = s.cumulativeY := rfl
@[simp] theorem State.record_mode (s : State) (o : Obs) : (s.record o).mode = s.mode := rfl
@[simp] theorem State.record_seq (s : State) (o : Obs) : (s.record o).seq = s.seq := rfl
@[simp] theorem State.record_retAwait (s : State) (o : Obs) : (s.record o).retAwait = s.retAwait := rfl
@[simp] theorem State.record_retSend (s : State) (o : Obs) : (s.record o).retSend = s.retSend := rfl
@[simp] theorem State.record_pollN (s : State) (o : Obs) : (s.record o).pollN = s.pollN := rfl
@[simp] theorem State.record_dir (s : State) (o : Obs) : (s.record o).dir = s.dir := rfl
@[simp] theorem State.record_statusReg (s : State) (o : Obs) : (s.record o).statusReg = s.statusReg := rfl
@[simp] theorem State.record_dataReg (s : State) (o : Obs) : (s.record o).dataReg = s.dataReg := rfl
@[simp] theorem State.record_cfg (s : State) (o : Obs) : (s.record o).cfg = s.cfg := rfl
@[simp] theorem State.record_cmd (s : State) (o : Obs) : (s.record o).cmd = s.cmd := rfl
@[simp] theorem State.record_packet (s : State) (o : Obs) : (s.record o).packet = s.packet := rfl
@[simp] theorem State.record_resetReq (s : State) (o : Obs) : (s.record o).resetReq = s.resetReq := rfl
@[simp] theorem State.record_initReq (s : State) (o : Obs) : (s.record o).initReq = s.initReq := rfl
@[simp] theorem State.record_irqReq (s : State) (o : Obs) : (s.record o).irqReq = s.irqReq := rfl
@[simp] theorem State.record_schedule (s : State) (o : Obs) : (s.record o).schedule = s.schedule := rfl
@[simp] theorem State.record_arbiter (s : State) (o : Obs) : (s.record o).arbiter = s.arbiter := rfl
@[simp] theorem State.record_statusAnswers (s : State) (o : Obs) : (s.record o).statusAnswers = s.statusAnswers := rfl
@[simp] theorem State.record_dataAnswers (s : State) (o : Obs) : (s.record o).dataAnswers = s.dataAnswers := rfl
@[simp] theorem State.record_draws (s : State) (o : Obs) : (s.record o).draws = s.draws := rfl
@[simp] theorem State.record_trace (s : State) (o : Obs) : (s.record o).trace = s.trace ++ [o] := rfl
@[simp] theorem State.record_diags (s : State) (o : Obs) : (s.record o).diags = s.diags := rfl

/-! ## A record on the diagnostic output -/

@[simp] theorem State.diag_params (s : State) (d : Diag) : (s.diag d).params = s.params := rfl
@[simp] theorem State.diag_packetBuffer (s : State) (d : Diag) : (s.diag d).packetBuffer = s.packetBuffer := rfl
@[simp] theorem State.diag_bytesReceived (s : State) (d : Diag) : (s.diag d).bytesReceived = s.bytesReceived := rfl
@[simp] theorem State.diag_cumulativeX (s : State) (d : Diag) : (s.diag d).cumulativeX = s.cumulativeX := rfl
@[simp] theorem State.diag_cumulativeY (s : State) (d : Diag) : (s.diag d).cumulativeY = s.cumulativeY := rfl
@[simp] theorem State.diag_mode (s : State) (d : Diag) : (s.diag d).mode = s.mode := rfl
@[simp] theorem State.diag_seq (s : State) (d : Diag) : (s.diag d).seq = s.seq := rfl
@[simp] theorem State.diag_retAwait (s : State) (d : Diag) : (s.diag d).retAwait = s.retAwait := rfl
@[simp] theorem State.diag_retSend (s : State) (d : Diag) : (s.diag d).retSend = s.retSend := rfl
@[simp] theorem State.diag_pollN (s : State) (d : Diag) : (s.diag d).pollN = s.pollN := rfl
@[simp] theorem State.diag_dir (s : State) (d : Diag) : (s.diag d).dir = s.dir := rfl
@[simp] theorem State.diag_statusReg (s : State) (d : Diag) : (s.diag d).statusReg = s.statusReg := rfl
@[simp] theorem State.diag_dataReg (s : State) (d : Diag) : (s.diag d).dataReg = s.dataReg := rfl
@[simp] theorem State.diag_cfg (s : State) (d : Diag) : (s.diag d).cfg = s.cfg := rfl
@[simp] theorem State.diag_cmd (s : State) (d : Diag) : (s.diag d).cmd = s.cmd := rfl
@[simp] theorem State.diag_packet (s : State) (d : Diag) : (s.diag d).packet = s.packet := rfl
@[simp] theorem State.diag_resetReq (s : State) (d : Diag) : (s.diag d).resetReq = s.resetReq := rfl
@[simp] theorem State.diag_initReq (s : State) (d : Diag) : (s.diag d).initReq = s.initReq := rfl
@[simp] theorem State.diag_irqReq (s : State) (d : Diag) : (s.diag d).irqReq = s.irqReq := rfl
@[simp] theorem State.diag_schedule (s : State) (d : Diag) : (s.diag d).schedule = s.schedule := rfl
@[simp] theorem State.diag_arbiter (s : State) (d : Diag) : (s.diag d).arbiter = s.arbiter := rfl
@[simp] theorem State.diag_statusAnswers (s : State) (d : Diag) : (s.diag d).statusAnswers = s.statusAnswers := rfl
@[simp] theorem State.diag_dataAnswers (s : State) (d : Diag) : (s.diag d).dataAnswers = s.dataAnswers := rfl
@[simp] theorem State.diag_draws (s : State) (d : Diag) : (s.diag d).draws = s.draws := rfl
@[simp] theorem State.diag_trace (s : State) (d : Diag) : (s.diag d).trace = s.trace := rfl
@[simp] theorem State.diag_diags (s : State) (d : Diag) : (s.diag d).diags = s.diags ++ [d] := rfl

/-! ## A port write -/

@[simp] theorem State.portWrite_params (s : State) (p : Port) (v : Byte) : (s.portWrite p v).params = s.params := rfl
@[simp] theorem State.portWrite_packetBuffer (s : State) (p : Port) (v : Byte) :
    (s.portWrite p v).packetBuffer = s.packetBuffer := rfl
@[simp] theorem State.portWrite_bytesReceived (s : State) (p : Port) (v : Byte) :
    (s.portWrite p v).bytesReceived = s.bytesReceived := rfl
@[simp] theorem State.portWrite_cumulativeX (s : State) (p : Port) (v : Byte) :
    (s.portWrite p v).cumulativeX = s.cumulativeX := rfl
@[simp] theorem State.portWrite_cumulativeY (s : State) (p : Port) (v : Byte) :
    (s.portWrite p v).cumulativeY = s.cumulativeY := rfl
@[simp] theorem State.portWrite_mode (s : State) (p : Port) (v : Byte) : (s.portWrite p v).mode = s.mode := rfl
@[simp] theorem State.portWrite_seq (s : State) (p : Port) (v : Byte) : (s.portWrite p v).seq = s.seq := rfl
@[simp] theorem State.portWrite_retAwait (s : State) (p : Port) (v : Byte) :
    (s.portWrite p v).retAwait = s.retAwait := rfl
@[simp] theorem State.portWrite_retSend (s : State) (p : Port) (v : Byte) :
    (s.portWrite p v).retSend = s.retSend := rfl
@[simp] theorem State.portWrite_pollN (s : State) (p : Port) (v : Byte) : (s.portWrite p v).pollN = s.pollN := rfl
@[simp] theorem State.portWrite_dir (s : State) (p : Port) (v : Byte) : (s.portWrite p v).dir = s.dir := rfl
@[simp] theorem State.portWrite_statusReg (s : State) (p : Port) (v : Byte) :
    (s.portWrite p v).statusReg = s.statusReg := rfl
@[simp] theorem State.portWrite_dataReg (s : State) (p : Port) (v : Byte) :
    (s.portWrite p v).dataReg = s.dataReg := rfl
@[simp] theorem State.portWrite_cfg (s : State) (p : Port) (v : Byte) : (s.portWrite p v).cfg = s.cfg := rfl
@[simp] theorem State.portWrite_cmd (s : State) (p : Port) (v : Byte) : (s.portWrite p v).cmd = s.cmd := rfl
@[simp] theorem State.portWrite_packet (s : State) (p : Port) (v : Byte) : (s.portWrite p v).packet = s.packet := rfl
@[simp] theorem State.portWrite_resetReq (s : State) (p : Port) (v : Byte) :
    (s.portWrite p v).resetReq = s.resetReq := rfl
@[simp] theorem State.portWrite_initReq (s : State) (p : Port) (v : Byte) :
    (s.portWrite p v).initReq = s.initReq := rfl
@[simp] theorem State.portWrite_irqReq (s : State) (p : Port) (v : Byte) : (s.portWrite p v).irqReq = s.irqReq := rfl
@[simp] theorem State.portWrite_schedule (s : State) (p : Port) (v : Byte) :
    (s.portWrite p v).schedule = s.schedule := rfl
@[simp] theorem State.portWrite_arbiter (s : State) (p : Port) (v : Byte) :
    (s.portWrite p v).arbiter = s.arbiter := rfl
@[simp] theorem State.portWrite_statusAnswers (s : State) (p : Port) (v : Byte) :
    (s.portWrite p v).statusAnswers = s.statusAnswers := rfl
@[simp] theorem State.portWrite_dataAnswers (s : State) (p : Port) (v : Byte) :
    (s.portWrite p v).dataAnswers = s.dataAnswers := rfl
@[simp] theorem State.portWrite_draws (s : State) (p : Port) (v : Byte) : (s.portWrite p v).draws = s.draws := rfl
@[simp] theorem State.portWrite_trace (s : State) (p : Port) (v : Byte) :
    (s.portWrite p v).trace = s.trace ++ [.write (s.portAddr p) v] := rfl
@[simp] theorem State.portWrite_diags (s : State) (p : Port) (v : Byte) : (s.portWrite p v).diags = s.diags := rfl

/-! ## A status read -/

@[simp] theorem State.readStatus_params (s : State) : (s.readStatus).params = s.params := rfl
@[simp] theorem State.readStatus_packetBuffer (s : State) : (s.readStatus).packetBuffer = s.packetBuffer := rfl
@[simp] theorem State.readStatus_bytesReceived (s : State) : (s.readStatus).bytesReceived = s.bytesReceived := rfl
@[simp] theorem State.readStatus_cumulativeX (s : State) : (s.readStatus).cumulativeX = s.cumulativeX := rfl
@[simp] theorem State.readStatus_cumulativeY (s : State) : (s.readStatus).cumulativeY = s.cumulativeY := rfl
@[simp] theorem State.readStatus_mode (s : State) : (s.readStatus).mode = s.mode := rfl
@[simp] theorem State.readStatus_seq (s : State) : (s.readStatus).seq = s.seq := rfl
@[simp] theorem State.readStatus_retAwait (s : State) : (s.readStatus).retAwait = s.retAwait := rfl
@[simp] theorem State.readStatus_retSend (s : State) : (s.readStatus).retSend = s.retSend := rfl
@[simp] theorem State.readStatus_pollN (s : State) : (s.readStatus).pollN = s.pollN := rfl
@[simp] theorem State.readStatus_dir (s : State) : (s.readStatus).dir = s.dir := rfl
@[simp] theorem State.readStatus_statusReg (s : State) : (s.readStatus).statusReg = s.statusAnswer := rfl
@[simp] theorem State.readStatus_dataReg (s : State) : (s.readStatus).dataReg = s.dataReg := rfl
@[simp] theorem State.readStatus_cfg (s : State) : (s.readStatus).cfg = s.cfg := rfl
@[simp] theorem State.readStatus_cmd (s : State) : (s.readStatus).cmd = s.cmd := rfl
@[simp] theorem State.readStatus_packet (s : State) : (s.readStatus).packet = s.packet := rfl
@[simp] theorem State.readStatus_resetReq (s : State) : (s.readStatus).resetReq = s.resetReq := rfl
@[simp] theorem State.readStatus_initReq (s : State) : (s.readStatus).initReq = s.initReq := rfl
@[simp] theorem State.readStatus_irqReq (s : State) : (s.readStatus).irqReq = s.irqReq := rfl
@[simp] theorem State.readStatus_schedule (s : State) : (s.readStatus).schedule = s.schedule := rfl
@[simp] theorem State.readStatus_arbiter (s : State) : (s.readStatus).arbiter = s.arbiter := rfl
@[simp] theorem State.readStatus_statusAnswers (s : State) :
    (s.readStatus).statusAnswers = s.statusAnswers.tail := rfl
@[simp] theorem State.readStatus_dataAnswers (s : State) : (s.readStatus).dataAnswers = s.dataAnswers := rfl
@[simp] theorem State.readStatus_draws (s : State) : (s.readStatus).draws = drawsAfter s.statusAnswers s.draws := rfl
@[simp] theorem State.readStatus_trace (s : State) :
    (s.readStatus).trace = s.trace ++ [.read (s.portAddr .ctrl) s.statusAnswer] := rfl
@[simp] theorem State.readStatus_diags (s : State) : (s.readStatus).diags = s.diags := rfl

/-! ## A data read -/

@[simp] theorem State.readData_params (s : State) : (s.readData).params = s.params := rfl
@[simp] theorem State.readData_packetBuffer (s : State) : (s.readData).packetBuffer = s.packetBuffer := rfl
@[simp] theorem State.readData_bytesReceived (s : State) : (s.readData).bytesReceived = s.bytesReceived := rfl
@[simp] theorem State.readData_cumulativeX (s : State) : (s.readData).cumulativeX = s.cumulativeX := rfl
@[simp] theorem State.readData_cumulativeY (s : State) : (s.readData).cumulativeY = s.cumulativeY := rfl
@[simp] theorem State.readData_mode (s : State) : (s.readData).mode = s.mode := rfl
@[simp] theorem State.readData_seq (s : State) : (s.readData).seq = s.seq := rfl
@[simp] theorem State.readData_retAwait (s : State) : (s.readData).retAwait = s.retAwait := rfl
@[simp] theorem State.readData_retSend (s : State) : (s.readData).retSend = s.retSend := rfl
@[simp] theorem State.readData_pollN (s : State) : (s.readData).pollN = s.pollN := rfl
@[simp] theorem State.readData_dir (s : State) : (s.readData).dir = s.dir := rfl
@[simp] theorem State.readData_statusReg (s : State) : (s.readData).statusReg = s.statusReg := rfl
@[simp] theorem State.readData_dataReg (s : State) : (s.readData).dataReg = s.dataAnswer := rfl
@[simp] theorem State.readData_cfg (s : State) : (s.readData).cfg = s.cfg := rfl
@[simp] theorem State.readData_cmd (s : State) : (s.readData).cmd = s.cmd := rfl
@[simp] theorem State.readData_packet (s : State) : (s.readData).packet = s.packet := rfl
@[simp] theorem State.readData_resetReq (s : State) : (s.readData).resetReq = s.resetReq := rfl
@[simp] theorem State.readData_initReq (s : State) : (s.readData).initReq = s.initReq := rfl
@[simp] theorem State.readData_irqReq (s : State) : (s.readData).irqReq = s.irqReq := rfl
@[simp] theorem State.readData_schedule (s : State) : (s.readData).schedule = s.schedule := rfl
@[simp] theorem State.readData_arbiter (s : State) : (s.readData).arbiter = s.arbiter := rfl
@[simp] theorem State.readData_statusAnswers (s : State) : (s.readData).statusAnswers = s.statusAnswers := rfl
@[simp] theorem State.readData_dataAnswers (s : State) : (s.readData).dataAnswers = s.dataAnswers.tail := rfl
@[simp] theorem State.readData_draws (s : State) : (s.readData).draws = drawsAfter s.dataAnswers s.draws := rfl
@[simp] theorem State.readData_trace (s : State) :
    (s.readData).trace = s.trace ++ [.read (s.portAddr .data) s.dataAnswer] := rfl
@[simp] theorem State.readData_diags (s : State) : (s.readData).diags = s.diags := rfl

/-! ## The call of a wait -/

@[simp] theorem State.callAwait_params (s : State) (d : Dir) : (s.callAwait d).params = s.params := rfl
@[simp] theorem State.callAwait_packetBuffer (s : State) (d : Dir) :
    (s.callAwait d).packetBuffer = s.packetBuffer := rfl
@[simp] theorem State.callAwait_bytesReceived (s : State) (d : Dir) :
    (s.callAwait d).bytesReceived = s.bytesReceived := rfl
@[simp] theorem State.callAwait_cumulativeX (s : State) (d : Dir) : (s.callAwait d).cumulativeX = s.cumulativeX := rfl
@[simp] theorem State.callAwait_cumulativeY (s : State) (d : Dir) : (s.callAwait d).cumulativeY = s.cumulativeY := rfl
@[simp] theorem State.callAwait_mode (s : State) (d : Dir) : (s.callAwait d).mode = s.mode := rfl
@[simp] theorem State.callAwait_seq (s : State) (d : Dir) : (s.callAwait d).seq = .A1 := rfl
@[simp] theorem State.callAwait_retAwait (s : State) (d : Dir) : (s.callAwait d).retAwait = nextLabel s.seq := rfl
@[simp] theorem State.callAwait_retSend (s : State) (d : Dir) : (s.callAwait d).retSend = s.retSend := rfl
@[simp] theorem State.callAwait_pollN (s : State) (d : Dir) : (s.callAwait d).pollN = 0 := rfl
@[simp] theorem State.callAwait_dir (s : State) (d : Dir) : (s.callAwait d).dir = d := rfl
@[simp] theorem State.callAwait_statusReg (s : State) (d : Dir) : (s.callAwait d).statusReg = s.statusReg := rfl
@[simp] theorem State.callAwait_dataReg (s : State) (d : Dir) : (s.callAwait d).dataReg = s.dataReg := rfl
@[simp] theorem State.callAwait_cfg (s : State) (d : Dir) : (s.callAwait d).cfg = s.cfg := rfl
@[simp] theorem State.callAwait_cmd (s : State) (d : Dir) : (s.callAwait d).cmd = s.cmd := rfl
@[simp] theorem State.callAwait_packet (s : State) (d : Dir) : (s.callAwait d).packet = s.packet := rfl
@[simp] theorem State.callAwait_resetReq (s : State) (d : Dir) : (s.callAwait d).resetReq = s.resetReq := rfl
@[simp] theorem State.callAwait_initReq (s : State) (d : Dir) : (s.callAwait d).initReq = s.initReq := rfl
@[simp] theorem State.callAwait_irqReq (s : State) (d : Dir) : (s.callAwait d).irqReq = s.irqReq := rfl
@[simp] theorem State.callAwait_schedule (s : State) (d : Dir) : (s.callAwait d).schedule = s.schedule := rfl
@[simp] theorem State.callAwait_arbiter (s : State) (d : Dir) : (s.callAwait d).arbiter = s.arbiter := rfl
@[simp] theorem State.callAwait_statusAnswers (s : State) (d : Dir) :
    (s.callAwait d).statusAnswers = s.statusAnswers := rfl
@[simp] theorem State.callAwait_dataAnswers (s : State) (d : Dir) : (s.callAwait d).dataAnswers = s.dataAnswers := rfl
@[simp] theorem State.callAwait_draws (s : State) (d : Dir) : (s.callAwait d).draws = s.draws := rfl
@[simp] theorem State.callAwait_trace (s : State) (d : Dir) : (s.callAwait d).trace = s.trace := rfl
@[simp] theorem State.callAwait_diags (s : State) (d : Dir) : (s.callAwait d).diags = s.diags := rfl

/-! ## The call of SEND_DEVICE_COMMAND -/

@[simp] theorem State.callSend_params (s : State) (c : Byte) : (s.callSend c).params = s.params := rfl
@[simp] theorem State.callSend_packetBuffer (s : State) (c : Byte) :
    (s.callSend c).packetBuffer = s.packetBuffer := rfl
@[simp] theorem State.callSend_bytesReceived (s : State) (c : Byte) :
    (s.callSend c).bytesReceived = s.bytesReceived := rfl
@[simp] theorem State.callSend_cumulativeX (s : State) (c : Byte) : (s.callSend c).cumulativeX = s.cumulativeX := rfl
@[simp] theorem State.callSend_cumulativeY (s : State) (c : Byte) : (s.callSend c).cumulativeY = s.cumulativeY := rfl
@[simp] theorem State.callSend_mode (s : State) (c : Byte) : (s.callSend c).mode = s.mode := rfl
@[simp] theorem State.callSend_seq (s : State) (c : Byte) : (s.callSend c).seq = .S1 := rfl
@[simp] theorem State.callSend_retAwait (s : State) (c : Byte) : (s.callSend c).retAwait = s.retAwait := rfl
@[simp] theorem State.callSend_retSend (s : State) (c : Byte) : (s.callSend c).retSend = nextLabel s.seq := rfl
@[simp] theorem State.callSend_pollN (s : State) (c : Byte) : (s.callSend c).pollN = s.pollN := rfl
@[simp] theorem State.callSend_dir (s : State) (c : Byte) : (s.callSend c).dir = s.dir := rfl
@[simp] theorem State.callSend_statusReg (s : State) (c : Byte) : (s.callSend c).statusReg = s.statusReg := rfl
@[simp] theorem State.callSend_dataReg (s : State) (c : Byte) : (s.callSend c).dataReg = s.dataReg := rfl
@[simp] theorem State.callSend_cfg (s : State) (c : Byte) : (s.callSend c).cfg = s.cfg := rfl
@[simp] theorem State.callSend_cmd (s : State) (c : Byte) : (s.callSend c).cmd = c := rfl
@[simp] theorem State.callSend_packet (s : State) (c : Byte) : (s.callSend c).packet = s.packet := rfl
@[simp] theorem State.callSend_resetReq (s : State) (c : Byte) : (s.callSend c).resetReq = s.resetReq := rfl
@[simp] theorem State.callSend_initReq (s : State) (c : Byte) : (s.callSend c).initReq = s.initReq := rfl
@[simp] theorem State.callSend_irqReq (s : State) (c : Byte) : (s.callSend c).irqReq = s.irqReq := rfl
@[simp] theorem State.callSend_schedule (s : State) (c : Byte) : (s.callSend c).schedule = s.schedule := rfl
@[simp] theorem State.callSend_arbiter (s : State) (c : Byte) : (s.callSend c).arbiter = s.arbiter := rfl
@[simp] theorem State.callSend_statusAnswers (s : State) (c : Byte) :
    (s.callSend c).statusAnswers = s.statusAnswers := rfl
@[simp] theorem State.callSend_dataAnswers (s : State) (c : Byte) : (s.callSend c).dataAnswers = s.dataAnswers := rfl
@[simp] theorem State.callSend_draws (s : State) (c : Byte) : (s.callSend c).draws = s.draws := rfl
@[simp] theorem State.callSend_trace (s : State) (c : Byte) : (s.callSend c).trace = s.trace := rfl
@[simp] theorem State.callSend_diags (s : State) (c : Byte) : (s.callSend c).diags = s.diags := rfl

/-! ## Entry into the interrupt service -/

@[simp] theorem State.enterService_params (s : State) : (s.enterService).params = s.params := rfl
@[simp] theorem State.enterService_packetBuffer (s : State) : (s.enterService).packetBuffer = s.packetBuffer := rfl
@[simp] theorem State.enterService_bytesReceived (s : State) : (s.enterService).bytesReceived = s.bytesReceived := rfl
@[simp] theorem State.enterService_cumulativeX (s : State) : (s.enterService).cumulativeX = s.cumulativeX := rfl
@[simp] theorem State.enterService_cumulativeY (s : State) : (s.enterService).cumulativeY = s.cumulativeY := rfl
@[simp] theorem State.enterService_mode (s : State) : (s.enterService).mode = .service := rfl
@[simp] theorem State.enterService_seq (s : State) : (s.enterService).seq = .H1 := rfl
@[simp] theorem State.enterService_retAwait (s : State) : (s.enterService).retAwait = s.retAwait := rfl
@[simp] theorem State.enterService_retSend (s : State) : (s.enterService).retSend = s.retSend := rfl
@[simp] theorem State.enterService_pollN (s : State) : (s.enterService).pollN = s.pollN := rfl
@[simp] theorem State.enterService_dir (s : State) : (s.enterService).dir = s.dir := rfl
@[simp] theorem State.enterService_statusReg (s : State) : (s.enterService).statusReg = s.statusReg := rfl
@[simp] theorem State.enterService_dataReg (s : State) : (s.enterService).dataReg = s.dataReg := rfl
@[simp] theorem State.enterService_cfg (s : State) : (s.enterService).cfg = s.cfg := rfl
@[simp] theorem State.enterService_cmd (s : State) : (s.enterService).cmd = s.cmd := rfl
@[simp] theorem State.enterService_packet (s : State) : (s.enterService).packet = s.packet := rfl
@[simp] theorem State.enterService_resetReq (s : State) : (s.enterService).resetReq = s.resetReq := rfl
@[simp] theorem State.enterService_initReq (s : State) : (s.enterService).initReq = s.initReq := rfl
@[simp] theorem State.enterService_irqReq (s : State) : (s.enterService).irqReq = false := rfl
@[simp] theorem State.enterService_schedule (s : State) : (s.enterService).schedule = s.schedule := rfl
@[simp] theorem State.enterService_arbiter (s : State) : (s.enterService).arbiter = s.arbiter := rfl
@[simp] theorem State.enterService_statusAnswers (s : State) : (s.enterService).statusAnswers = s.statusAnswers := rfl
@[simp] theorem State.enterService_dataAnswers (s : State) : (s.enterService).dataAnswers = s.dataAnswers := rfl
@[simp] theorem State.enterService_draws (s : State) : (s.enterService).draws = s.draws := rfl
@[simp] theorem State.enterService_trace (s : State) : (s.enterService).trace = s.trace := rfl
@[simp] theorem State.enterService_diags (s : State) : (s.enterService).diags = s.diags := rfl

/-! ## Return from the interrupt service -/

@[simp] theorem State.returnToArmed_params (s : State) : (s.returnToArmed).params = s.params := rfl
@[simp] theorem State.returnToArmed_packetBuffer (s : State) : (s.returnToArmed).packetBuffer = s.packetBuffer := rfl
@[simp] theorem State.returnToArmed_bytesReceived (s : State) :
    (s.returnToArmed).bytesReceived = s.bytesReceived := rfl
@[simp] theorem State.returnToArmed_cumulativeX (s : State) : (s.returnToArmed).cumulativeX = s.cumulativeX := rfl
@[simp] theorem State.returnToArmed_cumulativeY (s : State) : (s.returnToArmed).cumulativeY = s.cumulativeY := rfl
@[simp] theorem State.returnToArmed_mode (s : State) : (s.returnToArmed).mode = .armed := rfl
@[simp] theorem State.returnToArmed_seq (s : State) : (s.returnToArmed).seq = s.seq := rfl
@[simp] theorem State.returnToArmed_retAwait (s : State) : (s.returnToArmed).retAwait = s.retAwait := rfl
@[simp] theorem State.returnToArmed_retSend (s : State) : (s.returnToArmed).retSend = s.retSend := rfl
@[simp] theorem State.returnToArmed_pollN (s : State) : (s.returnToArmed).pollN = s.pollN := rfl
@[simp] theorem State.returnToArmed_dir (s : State) : (s.returnToArmed).dir = s.dir := rfl
@[simp] theorem State.returnToArmed_statusReg (s : State) : (s.returnToArmed).statusReg = s.statusReg := rfl
@[simp] theorem State.returnToArmed_dataReg (s : State) : (s.returnToArmed).dataReg = s.dataReg := rfl
@[simp] theorem State.returnToArmed_cfg (s : State) : (s.returnToArmed).cfg = s.cfg := rfl
@[simp] theorem State.returnToArmed_cmd (s : State) : (s.returnToArmed).cmd = s.cmd := rfl
@[simp] theorem State.returnToArmed_packet (s : State) : (s.returnToArmed).packet = s.packet := rfl
@[simp] theorem State.returnToArmed_resetReq (s : State) : (s.returnToArmed).resetReq = s.resetReq := rfl
@[simp] theorem State.returnToArmed_initReq (s : State) : (s.returnToArmed).initReq = s.initReq := rfl
@[simp] theorem State.returnToArmed_irqReq (s : State) : (s.returnToArmed).irqReq = s.irqReq := rfl
@[simp] theorem State.returnToArmed_schedule (s : State) : (s.returnToArmed).schedule = s.schedule := rfl
@[simp] theorem State.returnToArmed_arbiter (s : State) : (s.returnToArmed).arbiter = s.arbiter := rfl
@[simp] theorem State.returnToArmed_statusAnswers (s : State) :
    (s.returnToArmed).statusAnswers = s.statusAnswers := rfl
@[simp] theorem State.returnToArmed_dataAnswers (s : State) : (s.returnToArmed).dataAnswers = s.dataAnswers := rfl
@[simp] theorem State.returnToArmed_draws (s : State) : (s.returnToArmed).draws = s.draws := rfl
@[simp] theorem State.returnToArmed_trace (s : State) : (s.returnToArmed).trace = s.trace := rfl
@[simp] theorem State.returnToArmed_diags (s : State) : (s.returnToArmed).diags = s.diags := rfl

/-! ## The choice between two requests -/

@[simp] theorem State.afterChoice_params (s : State) : (s.afterChoice).params = s.params := rfl
@[simp] theorem State.afterChoice_packetBuffer (s : State) : (s.afterChoice).packetBuffer = s.packetBuffer := rfl
@[simp] theorem State.afterChoice_bytesReceived (s : State) : (s.afterChoice).bytesReceived = s.bytesReceived := rfl
@[simp] theorem State.afterChoice_cumulativeX (s : State) : (s.afterChoice).cumulativeX = s.cumulativeX := rfl
@[simp] theorem State.afterChoice_cumulativeY (s : State) : (s.afterChoice).cumulativeY = s.cumulativeY := rfl
@[simp] theorem State.afterChoice_mode (s : State) : (s.afterChoice).mode = s.mode := rfl
@[simp] theorem State.afterChoice_seq (s : State) : (s.afterChoice).seq = s.seq := rfl
@[simp] theorem State.afterChoice_retAwait (s : State) : (s.afterChoice).retAwait = s.retAwait := rfl
@[simp] theorem State.afterChoice_retSend (s : State) : (s.afterChoice).retSend = s.retSend := rfl
@[simp] theorem State.afterChoice_pollN (s : State) : (s.afterChoice).pollN = s.pollN := rfl
@[simp] theorem State.afterChoice_dir (s : State) : (s.afterChoice).dir = s.dir := rfl
@[simp] theorem State.afterChoice_statusReg (s : State) : (s.afterChoice).statusReg = s.statusReg := rfl
@[simp] theorem State.afterChoice_dataReg (s : State) : (s.afterChoice).dataReg = s.dataReg := rfl
@[simp] theorem State.afterChoice_cfg (s : State) : (s.afterChoice).cfg = s.cfg := rfl
@[simp] theorem State.afterChoice_cmd (s : State) : (s.afterChoice).cmd = s.cmd := rfl
@[simp] theorem State.afterChoice_packet (s : State) : (s.afterChoice).packet = s.packet := rfl
@[simp] theorem State.afterChoice_resetReq (s : State) : (s.afterChoice).resetReq = s.resetReq := rfl
@[simp] theorem State.afterChoice_initReq (s : State) : (s.afterChoice).initReq = s.initReq := rfl
@[simp] theorem State.afterChoice_irqReq (s : State) : (s.afterChoice).irqReq = s.irqReq := rfl
@[simp] theorem State.afterChoice_schedule (s : State) : (s.afterChoice).schedule = s.schedule := rfl
@[simp] theorem State.afterChoice_arbiter (s : State) : (s.afterChoice).arbiter = s.arbiter.tail := rfl
@[simp] theorem State.afterChoice_statusAnswers (s : State) : (s.afterChoice).statusAnswers = s.statusAnswers := rfl
@[simp] theorem State.afterChoice_dataAnswers (s : State) : (s.afterChoice).dataAnswers = s.dataAnswers := rfl
@[simp] theorem State.afterChoice_draws (s : State) : (s.afterChoice).draws = drawsAfter s.arbiter s.draws := rfl
@[simp] theorem State.afterChoice_trace (s : State) : (s.afterChoice).trace = s.trace := rfl
@[simp] theorem State.afterChoice_diags (s : State) : (s.afterChoice).diags = s.diags := rfl

end Sys2Proof.Machine
end

