-- ==== Sys2Proof/Laws/Sequencer.lean ====
section
/-! SUPPORT. What the step at each label of R28 answers, and what a block turn can do. -/

namespace Sys2Proof.Machine

@[simp] theorem andThen_next (t : State) (f : State → Host.Outcome State Fault Refusal) : andThen (.next t) f = f t := rfl

@[simp] theorem andThen_pure (o : Host.Outcome State Fault Refusal) : andThen o (fun t => .next t) = o := by
  cases o <;> rfl

/-! ## One lemma a label -/

theorem runLabel_I0 {s : State} (h : s.seq = .I0) :
    runLabel s = .next { s with
      cumulativeX := 0, cumulativeY := 0, bytesReceived := 0, packetBuffer := Memory.zeroed, seq := .I1a } := by
  unfold runLabel; rw [h]; rfl

/-- The labels that call a wait for the input buffer. -/
theorem runLabel_awaitSend {s : State} (h : s.seq ∈ [Label.I1a, .I2a, .I4a, .I4c, .S1, .S3]) :
    runLabel s = .next (s.callAwait .send) := by
  simp only [List.mem_cons, List.not_mem_nil, or_false] at h
  rcases h with h | h | h | h | h | h <;> (unfold runLabel; rw [h]; rfl)

/-- The labels that call a wait for the output buffer. -/
theorem runLabel_awaitRecv {s : State} (h : s.seq ∈ [Label.I2c, .S5, .H1]) :
    runLabel s = .next (s.callAwait .recv) := by
  simp only [List.mem_cons, List.not_mem_nil, or_false] at h
  rcases h with h | h | h <;> (unfold runLabel; rw [h]; rfl)

theorem runLabel_I1b {s : State} (h : s.seq = .I1b) : runLabel s = .next ((s.portWrite .ctrl 0xA8).goto .I2a) := by
  unfold runLabel; rw [h]; rfl

theorem runLabel_I2b {s : State} (h : s.seq = .I2b) : runLabel s = .next ((s.portWrite .ctrl 0x20).goto .I2c) := by
  unfold runLabel; rw [h]; rfl

theorem runLabel_I2d {s : State} (h : s.seq = .I2d) :
    runLabel s = .next { s.readData with cfg := s.dataAnswer, seq := .I3 } := by
  unfold runLabel; rw [h]; rfl

theorem runLabel_I3 {s : State} (h : s.seq = .I3) :
    runLabel s = .next { s with cfg := withAuxInterrupt s.cfg, seq := .I4a } := by
  unfold runLabel; rw [h]; rfl

theorem runLabel_I4b {s : State} (h : s.seq = .I4b) : runLabel s = .next ((s.portWrite .ctrl 0x60).goto .I4c) := by
  unfold runLabel; rw [h]; rfl

theorem runLabel_I4d {s : State} (h : s.seq = .I4d) : runLabel s = .next ((s.portWrite .data s.cfg).goto .I5) := by
  unfold runLabel; rw [h]; rfl

theorem runLabel_I5 {s : State} (h : s.seq = .I5) : runLabel s = .next (s.callSend 0xF6) := by
  unfold runLabel; rw [h]; rfl

theorem runLabel_I6 {s : State} (h : s.seq = .I6) : runLabel s = .next (s.callSend 0xF4) := by
  unfold runLabel; rw [h]; rfl

theorem runLabel_I7 {s : State} (h : s.seq = .I7) :
    runLabel s = .next ((s.record (.enableIrq s.params.irqIndex s.params.irqTarget)).goto .I8) := by
  unfold runLabel; rw [h]; rfl

theorem runLabel_I8 {s : State} (h : s.seq = .I8) : runLabel s = .next { s with mode := .armed } := by
  simp [runLabel, h, State.labelOps, execAll, State.finishLabel]

theorem runLabel_S2 {s : State} (h : s.seq = .S2) : runLabel s = .next ((s.portWrite .ctrl 0xD4).goto .S3) := by
  unfold runLabel; rw [h]; rfl

theorem runLabel_S4 {s : State} (h : s.seq = .S4) : runLabel s = .next ((s.portWrite .data s.cmd).goto .S5) := by
  unfold runLabel; rw [h]; rfl

theorem runLabel_S6 {s : State} (h : s.seq = .S6) :
    runLabel s = .next (if isAck s.dataAnswer then s.readData.goto s.retSend else s.readData.goto .S6) := by
  unfold runLabel; rw [h]; rfl

theorem runLabel_A1_exhausted {s : State} (h : s.seq = .A1) (hp : s.pollN = s.params.pollBound) :
    runLabel s = .next ((s.diag (.pollTimeout s.dir)).goto s.retAwait) := by
  have hw : s.waitExhausted = true := by simp [State.waitExhausted, hp]
  simp [runLabel, h, State.labelOps, hw, execAll, State.finishLabel, State.finishPoll]

theorem runLabel_A1_met {s : State} (h : s.seq = .A1) (hp : s.pollN ≠ s.params.pollBound)
    (hm : waitMet s.dir s.statusAnswer = true) : runLabel s = .next (s.readStatus.goto s.retAwait) := by
  have hw : s.waitExhausted = false := by simp [State.waitExhausted, hp]
  have hw' : s.readStatus.waitExhausted = false := by simp [State.waitExhausted, hp]
  simp [runLabel, h, State.labelOps, hw, execAll, exec, execStatusRead, State.finishLabel, State.finishPoll, hw', hm]

theorem runLabel_A1_again {s : State} (h : s.seq = .A1) (hp : s.pollN ≠ s.params.pollBound)
    (hm : waitMet s.dir s.statusAnswer = false) :
    runLabel s = .next { s.readStatus with pollN := s.pollN + 1 } := by
  have hw : s.waitExhausted = false := by simp [State.waitExhausted, hp]
  have hw' : s.readStatus.waitExhausted = false := by simp [State.waitExhausted, hp]
  simp [runLabel, h, State.labelOps, hw, execAll, exec, execStatusRead, State.finishLabel, State.finishPoll, hw', hm]

theorem runLabel_H2 {s : State} (h : s.seq = .H2) :
    runLabel s = .next (s.readStatus.goto (if outputFull s.statusAnswer then .H3 else .H7)) := by
  unfold runLabel; rw [h]; rfl

theorem runLabel_H3 {s : State} (h : s.seq = .H3) : runLabel s = .next (s.readData.goto .H4) := by
  unfold runLabel; rw [h]; rfl

theorem runLabel_H4 {s : State} (h : s.seq = .H4) :
    runLabel s = .next { s with packetBuffer := s.packetBuffer.write s.phase s.dataReg, seq := .H5 } := by
  unfold runLabel; rw [h]; rfl

theorem runLabel_H5 {s : State} (h : s.seq = .H5) :
    runLabel s = .next { s with bytesReceived := nextCount s.params.cntW s.bytesReceived, seq := .H6 } := by
  unfold runLabel; rw [h]; rfl

/-- The event of the three buffered bytes. -/
abbrev State.buffered (s : State) : Event :=
  eventOf (s.packetBuffer.read 0) (s.packetBuffer.read 1) (s.packetBuffer.read 2)

theorem runLabel_H6_complete {s : State} (h : s.seq = .H6) (hc : packetComplete s.bytesReceived = true) :
    runLabel s = .next { s with
      packet := s.buffered
      trace := s.trace ++ [.emit s.buffered]
      cumulativeX := accumulate s.params.accMode s.cumulativeX s.buffered.dx
      cumulativeY := accumulate s.params.accMode s.cumulativeY s.buffered.dy
      seq := .H7 } := by
  simp [runLabel, h, State.labelOps, hc, execAll, exec, execDecode, execEmit, execAccUpdate, State.record,
    State.finishLabel, State.goto, nextLabel]

theorem runLabel_H6_partial {s : State} (h : s.seq = .H6) (hc : packetComplete s.bytesReceived = false) :
    runLabel s = .next (s.goto .H7) := by
  simp [runLabel, h, State.labelOps, hc, execAll, State.finishLabel, nextLabel]

theorem runLabel_H7 {s : State} (h : s.seq = .H7) : runLabel s = .next s.returnToArmed := by
  unfold runLabel; rw [h]; rfl

/-! ## A block turn -/

/-- With no other agent to move and no RESET outstanding, a busy block's step is its label's. -/
theorem step_busy {s : State} (hb : isQuiescent s.mode = false) (hs : s.schedule = []) (hr : s.resetReq = false) :
    step s = runLabel s := by
  simp only [step, turn, hs, blockTurn, hr]
  cases hm : s.mode <;> simp_all [isQuiescent]

/-- Everything the block's move can be: RESET, the acceptance of INIT or of a notification, a label, or nothing. -/
theorem blockTurn_cases {s t : State} (h : blockTurn s = .next t) :
    (s.resetReq = true ∧ t = { s.loseRegisters with resetReq := false }) ∨
    (s.resetReq = false ∧
      ((isQuiescent s.mode = false ∧ runLabel s = .next t) ∨
       (isQuiescent s.mode = true ∧ s.initReq = true ∧
          (t = { s with mode := .init, seq := .I0, initReq := false } ∨
           t = { s.afterChoice with mode := .init, seq := .I0, initReq := false })) ∨
       (s.mode = .armed ∧ s.irqReq = true ∧ (t = s.enterService ∨ t = s.afterChoice.enterService)) ∨
       (isQuiescent s.mode = true ∧ s.initReq = false ∧ (s.mode = .armed → s.irqReq = false) ∧ t = s))) := by
  unfold blockTurn at h
  cases hr : s.resetReq
  · rw [hr] at h
    refine .inr ⟨rfl, ?_⟩
    cases hm : s.mode <;> rw [hm] at h
    case init => exact .inl ⟨rfl, h⟩
    case service => exact .inl ⟨rfl, h⟩
    case off =>
      cases hi : s.initReq <;> simp [acceptOff, hi, exec, execInit, hm, isQuiescent] at h <;> subst h <;>
        simp [isQuiescent, hr]
    case armed =>
      cases hi : s.initReq <;> cases hq : s.irqReq <;>
        simp [acceptArmed, hi, hq, exec, execInit, execHandleIrq, hm, isQuiescent] at h
      case true.true =>
        cases hf : s.irqFirst <;> simp [hf] at h <;> subst h <;> simp [isQuiescent, hr, hq]
      all_goals subst h; simp [isQuiescent, hr, hq]
  · rw [hr] at h
    exact .inl ⟨rfl, by simpa [exec, execReset] using h.symm⟩

/-- Everything a step can be: another agent's move, which changes a line or nothing, or the block's. -/
theorem step_cases {s t : State} (h : step s = .next t) :
    (s.schedule = [] ∧ blockTurn s = .next t) ∨
    (∃ rest, s.schedule = .block :: rest ∧ blockTurn { s with schedule := rest } = .next t) ∨
    (∃ m rest, s.schedule = m :: rest ∧ m ≠ .block ∧
      ∃ r i q, t = { s with schedule := rest, resetReq := r, initReq := i, irqReq := q } ∧
        (m ≠ .raiseReset → r = s.resetReq)) := by
  unfold step turn at h
  cases hs : s.schedule with
  | nil => rw [hs] at h; exact .inl ⟨rfl, h⟩
  | cons m rest =>
    rw [hs] at h
    cases m <;> simp only [outsideMove] at h
    case block => exact .inr (.inl ⟨rest, rfl, h⟩)
    case foreignAccess =>
      split at h
      · exact .inr (.inr ⟨_, rest, rfl, by decide, s.resetReq, s.initReq, s.irqReq, by simpa using h.symm, fun _ => rfl⟩)
      · cases h
    case nestedHandler =>
      split at h
      · exact .inr (.inr ⟨_, rest, rfl, by decide, s.resetReq, s.initReq, s.irqReq, by simpa using h.symm, fun _ => rfl⟩)
      · cases h
    case raiseReset =>
      exact .inr (.inr ⟨_, rest, rfl, by decide, true, s.initReq, s.irqReq, by simpa using h.symm, by simp⟩)
    case raiseInit =>
      exact .inr (.inr ⟨_, rest, rfl, by decide, s.resetReq, true, s.irqReq, by simpa using h.symm, fun _ => rfl⟩)
    case deliverIrq =>
      exact .inr (.inr ⟨_, rest, rfl, by decide, s.resetReq, s.initReq, true, by simpa using h.symm, fun _ => rfl⟩)
    case dropIrq =>
      exact .inr (.inr ⟨_, rest, rfl, by decide, s.resetReq, s.initReq, false, by simpa using h.symm, fun _ => rfl⟩)

/-- A label's step always answers a next state. -/
theorem runLabel_next (s : State) : ∃ t, runLabel s = .next t := by
  cases h : s.seq
  case A1 =>
    by_cases hp : s.pollN = s.params.pollBound
    · exact ⟨_, runLabel_A1_exhausted h hp⟩
    · cases hm : waitMet s.dir s.statusAnswer
      · exact ⟨_, runLabel_A1_again h hp hm⟩
      · exact ⟨_, runLabel_A1_met h hp hm⟩
  case H6 =>
    cases hc : packetComplete s.bytesReceived
    · exact ⟨_, runLabel_H6_partial h hc⟩
    · exact ⟨_, runLabel_H6_complete h hc⟩
  all_goals exact ⟨_, by unfold runLabel; rw [h]; rfl⟩

end Sys2Proof.Machine
end

