-- ==== Sys2Proof/Laws/Trace.lean ====
section
/-! SUPPORT. What a longer trace shows, and how runs compose. -/

namespace Sys2Proof.Machine

theorem writesOf_append (u v : List Obs) : writesOf (u ++ v) = writesOf u ++ writesOf v := by
  induction u with
  | nil => rfl
  | cons o u ih => cases o <;> simp [writesOf, ih]

theorem readsAt_append (a : Nat) (u v : List Obs) : readsAt a (u ++ v) = readsAt a u ++ readsAt a v := by
  induction u with
  | nil => rfl
  | cons o u ih =>
    cases o <;> simp only [List.cons_append, readsAt, ih]
    split <;> simp

theorem eventsOf_append (u v : List Obs) : eventsOf (u ++ v) = eventsOf u ++ eventsOf v := by
  induction u with
  | nil => rfl
  | cons o u ih => cases o <;> simp [eventsOf, ih]

theorem enablesOf_append (u v : List Obs) : enablesOf (u ++ v) = enablesOf u ++ enablesOf v := by
  induction u with
  | nil => rfl
  | cons o u ih => cases o <;> simp [enablesOf, ih]

theorem andThen_assoc (o : Host.Outcome State Fault Refusal) (f g : State → Host.Outcome State Fault Refusal) :
    andThen (andThen o f) g = andThen o fun t => andThen (f t) g := by
  cases o <;> rfl

/-- A run of `m + n` steps is a run of `m` steps and then one of `n`. -/
theorem runSteps_add (m n : Nat) (s : State) : runSteps (m + n) s = andThen (runSteps m s) (runSteps n) := by
  induction m generalizing s with
  | zero => simp [runSteps]
  | succ m ih =>
    rw [Nat.add_right_comm]
    simp only [runSteps, andThen_assoc]
    congr 1
    funext t
    exact ih t

/-- A first step, and the rest of the run. -/
theorem runSteps_succ {s t : State} (h : step s = .next t) (k : Nat) : runSteps (k + 1) s = runSteps k t := by
  simp [runSteps, h]

/-- Two runs, one after the other. -/
theorem runSteps_trans {m n : Nat} {s t : State} (h : runSteps m s = .next t) :
    runSteps (m + n) s = runSteps n t := by
  rw [runSteps_add, h, andThen_next]

/-- A run is at its start, or past its first step. -/
theorem visits_step {s t u : State} (h : step s = .next t) (hv : Visits s u) : u = s ∨ Visits t u := by
  obtain ⟨k, hk⟩ := hv
  cases k with
  | zero => simp only [runSteps, Host.Outcome.next.injEq] at hk; exact .inl hk.symm
  | succ k => exact .inr ⟨k, by rwa [runSteps_succ h] at hk⟩

/-- A state whose step answers itself is all its run passes through. -/
theorem visits_idle {s u : State} (h : step s = .next s) (hv : Visits s u) : u = s := by
  obtain ⟨k, hk⟩ := hv
  induction k with
  | zero => simp only [runSteps, Host.Outcome.next.injEq] at hk; exact hk.symm
  | succ k ih => exact ih (by rwa [runSteps_succ h] at hk)

/-- The rest of a run keeps `P_ACK`. -/
theorem pack_later {s t : State} {k : Nat} (h : PAck s) (ht : runSteps k s = .next t) : PAck t := by
  intro u ⟨j, hj⟩
  exact h u ⟨k + j, by rw [runSteps_trans ht]; exact hj⟩

end Sys2Proof.Machine
end

