-- ==== Sys2Proof/Tests/Slice0.lean ====
section
/-! SUPPORT. Tests: the well-formedness checks, the encodings written bit by bit, one step of each operation against the
spec's vectors (95_test_vectors.md), and a witness for the hypotheses of every obligation that has some. -/

namespace Sys2Proof.Machine

open Sys2Proof.Config

/-! ## Helpers -/

/-- The machine after reset, moved to a mode and a label. -/
def standing (m : Mode) (l : Label) : State := { State.reset with mode := m, seq := l }

/-- What an outcome leaves in some fields, where it is a next state. -/
def leaves {α : Type} (o : Host.Outcome State Fault Refusal) (f : State → α) : Option α :=
  match o with
  | .next t => some (f t)
  | .fault _ => none
  | .refused _ => none

/-- The three slots. -/
def State.slots (s : State) : List Byte := [s.packetBuffer.read 0, s.packetBuffer.read 1, s.packetBuffer.read 2]

/-- A wait in a direction, two reads allowed, with the answers to come. -/
def waiting (d : Dir) (n : Nat) (answers : List Byte) : State :=
  { standing .init .A1 with
    dir := d, pollN := n, retAwait := .I1b, statusAnswers := answers, params := { defaults with pollBound := 2 } }

/-- A handler step with its buffer, count and answers. -/
def serving (l : Label) (n : Nat) (buffer : Memory) (status data : List Byte) : State :=
  { standing .service l with
    retAwait := .H2, bytesReceived := n, packetBuffer := buffer, statusAnswers := status, dataAnswers := data }

/-- The packet of X1: 09 05 03. -/
def bufferX1 : Memory := [(0, 0x09), (1, 0x05), (2, 0x03)]

/-! ## Well-formedness: an ill-formed term for each check -/

theorem test_wf_ctrlWrite : (Instr.ctrlWrite 0xD4).wf = true ∧ (Instr.ctrlWrite 0xA9).wf = false := by decide
theorem test_wf_dataWrite : (Instr.dataWrite 0x02).wf = true ∧ (Instr.dataWrite 0xF4).wf = true ∧
    (Instr.dataWrite 0xFD).wf = false := by decide
theorem test_wf_sendDeviceCommand : (Instr.sendDeviceCommand 0xF6).wf = true ∧
    (Instr.sendDeviceCommand 0xFF).wf = false := by decide
theorem test_wf_params : defaults.wf = true ∧ { defaults with dataPort := 0x64 }.wf = false := by decide

/-! ## Encodings, written from R71 to R73 and R82 -/

theorem test_rows_apart : opcodeRows.Pairwise fun r q => r.apart q = true := by decide
theorem test_decode_requests : decodeTableWord 3 0b100 = some .reset ∧ decodeTableWord 3 0b010 = some .init ∧
    decodeTableWord 3 0b001 = some .handleIrq := by decide
theorem test_decode_controller : decodeTableWord 8 0b10101000 = some .auxEnable ∧
    decodeTableWord 8 0b00100000 = some .cfgRead ∧ decodeTableWord 8 0b01100000 = some .cfgWrite ∧
    decodeTableWord 8 0b11010100 = some .auxRoute := by decide
theorem test_decode_device : decodeTableWord 8 0b11110110 = some .devSetDefaults ∧
    decodeTableWord 8 0b11110100 = some .devEnableStream ∧ decodeTableWord 8 0b11111010 = some .ack := by decide
/-- R82: two requests at once are no request vector; R73: 0xFE is no response of the table. -/
theorem test_decode_refused : decodeTableWord 3 0b011 = none ∧ decodeTableWord 8 0xFE = none ∧
    decodeTableWord 0 0 = none := by decide
theorem test_decode_by_format : decodeAs .cmd8 0xF6 = .error (.notAnOperation 0xF6) ∧
    decodeAs .dev8 0xF6 = .ok .devSetDefaults := ⟨rfl, rfl⟩

/-! ## Requests -/

theorem test_reset_mode : leaves (exec .reset (standing .service .H3)) (fun t => (t.mode, t.trace)) = some (.off, []) := by
  decide
theorem test_init_accepted : leaves (exec .init (standing .armed .I8)) (fun t => (t.mode, t.seq)) = some (.init, .I0) := by
  decide
theorem test_init_held : leaves (exec .init (standing .service .H3)) (fun t => (t.mode, t.seq, t.initReq))
    = some (.service, .H3, true) := by decide
theorem test_irq_accepted : leaves (exec .handleIrq (standing .armed .I8)) (fun t => (t.mode, t.seq))
    = some (.service, .H1) := by decide
/-- V-H vectors and R199: nothing is accepted in `OFF`. -/
theorem test_irq_in_off : leaves (exec .handleIrq State.reset) (fun t => (t.mode, t.irqReq)) = some (.off, true) := by decide
/-- R198: RESET wins over both others. -/
theorem test_reset_wins : leaves (step { standing .armed .I8 with resetReq := true, initReq := true, irqReq := true })
    (fun t => (t.mode, t.initReq, t.irqReq)) = some (.off, true, true) := by decide

/-! ## Ports, wait, commands -/

theorem test_statusRead : leaves (exec .statusRead { State.reset with statusAnswers := [0x1D, 0x00] })
    (fun t => (t.statusReg, t.statusAnswers, t.trace)) = some (0x1D, [0x00], [.read 0x64 0x1D]) := by decide
theorem test_dataRead : leaves (exec .dataRead { State.reset with dataAnswers := [0xFA] })
    (fun t => (t.dataReg, t.dataAnswers, t.trace)) = some (0xFA, [], [.read 0x60 0xFA]) := by decide
theorem test_ctrlWrite : leaves (exec (.ctrlWrite 0xD4) State.reset) State.trace = some [.write 0x64 0xD4] := by decide
theorem test_dataWrite : leaves (exec (.dataWrite 0x47) State.reset) State.trace = some [.write 0x60 0x47] := by decide
theorem test_auxEnable : leaves (exec .auxEnable State.reset) State.trace = some [.write 0x64 0xA8] := by decide
theorem test_cfgRead : leaves (exec .cfgRead State.reset) State.trace = some [.write 0x64 0x20] := by decide
theorem test_cfgWrite : leaves (exec .cfgWrite State.reset) State.trace = some [.write 0x64 0x60] := by decide
theorem test_auxRoute : leaves (exec .auxRoute State.reset) State.trace = some [.write 0x64 0xD4] := by decide
theorem test_awaitReady : leaves (exec (.awaitReady .recv) { standing .init .I2c with pollN := 7 })
    (fun t => (t.dir, t.pollN, t.seq, t.retAwait)) = some (.recv, 0, .A1, .I2d) := by decide
/-- V-AW-4: 0xFD has bit 1 clear, which ends a SEND wait. -/
theorem test_wait_send_met : leaves (step (waiting .send 0 [0xFD])) (fun t => (t.seq, t.pollN)) = some (.I1b, 0) := by decide
/-- V-AW-8: 0xFE has bit 0 clear, which a RECV wait counts. -/
theorem test_wait_recv_again : leaves (step (waiting .recv 1 [0xFE])) (fun t => (t.seq, t.pollN)) = some (.A1, 2) := by decide
/-- V-AW-5: with the bound reached, one `diag` and no further read. -/
theorem test_wait_exhausted : leaves (step (waiting .send 2 [0x00])) (fun t => (t.seq, t.diags, t.trace))
    = some (.I1b, [.pollTimeout .send], []) := by decide
theorem test_sendDeviceCommand : leaves (exec (.sendDeviceCommand 0xF6) (standing .init .I5))
    (fun t => (t.cmd, t.seq, t.retSend)) = some (0xF6, .S1, .I6) := by decide
theorem test_devSetDefaults : leaves (exec .devSetDefaults (standing .init .I5))
    (fun t => (t.cmd, t.seq, t.retSend)) = some (0xF6, .S1, .I6) := by decide
theorem test_devEnableStream : leaves (exec .devEnableStream (standing .init .I6))
    (fun t => (t.cmd, t.seq, t.retSend)) = some (0xF4, .S1, .I7) := by decide
theorem test_ack_returns : leaves (exec .ack { standing .init .S6 with retSend := .I7, dataAnswers := [0xFA] })
    (fun t => (t.seq, t.dataReg)) = some (.I7, 0xFA) := by decide
/-- V-SDC-6: 0xFB differs from 0xFA in bit 0 alone. -/
theorem test_ack_discards : leaves (exec .ack { standing .init .S6 with retSend := .I7, dataAnswers := [0xFB, 0xFA] })
    (fun t => (t.seq, t.dataAnswers)) = some (.S6, [0xFA]) := by decide

/-! ## INIT and HANDLE_IRQ -/

theorem test_zeroState : leaves (exec .zeroState { standing .init .I0 with packetBuffer := bufferX1, bytesReceived := 4 })
    (fun t => (t.slots, t.bytesReceived)) = some ([0, 0, 0], 0) := by decide
theorem test_enableIrqLine : leaves (exec .enableIrqLine State.reset) State.trace = some [.enableIrq 12 0] := by decide
/-- R135: 0x45 is written back as 0x47. -/
theorem test_cfg_forced : leaves (step { standing .init .I3 with cfg := 0x45 }) (fun t => (t.cfg, t.seq))
    = some (0x47, .I4a) := by decide
theorem test_i2d : leaves (step { standing .init .I2d with dataAnswers := [0x45] }) (fun t => (t.cfg, t.dataReg, t.seq))
    = some (0x45, 0x45, .I3) := by decide
/-- V-H-4: the fourth byte goes to slot 0; slots 1 and 2 hold the old packet. -/
theorem test_storeByte : leaves (exec .storeByte { serving .H4 3 bufferX1 [] [] with dataReg := 0x19 }) State.slots
    = some [0x19, 0x05, 0x03] := by decide
/-- Storing 0x00 keeps the canonical form. -/
theorem test_storeByte_zero : leaves (exec .storeByte (serving .H4 1 bufferX1 [] [])) State.packetBuffer
    = some [(0, 0x09), (2, 0x03)] := by decide
/-- V-H-7: the fresh test failed, so the block goes to `H7`. -/
theorem test_spurious : leaves (step (serving .H2 1 [] [0xFE] [])) (fun t => (t.seq, t.bytesReceived)) = some (.H7, 1) := by
  decide
theorem test_byte_ready : leaves (step (serving .H2 1 [] [0x01] [])) State.seq = some .H3 := by decide
/-- R22: a counter of 8 bits wraps from 255 to 0. -/
theorem test_count_wraps : leaves (step { serving .H5 255 [] [] [] with params := { defaults with cntW := some 8 } })
    State.bytesReceived = some 0 := by decide
/-- V-H-3: the third byte completes `EV{1,0,0,5,3}`. -/
theorem test_completion : leaves (step (serving .H6 3 bufferX1 [] [])) (fun t => (t.trace, t.cumulativeX, t.cumulativeY))
    = some ([.emit ⟨true, false, false, 5, 3⟩], 5, 3) := by decide

/-! ## Decoding and accumulators -/

/-- V-DEC-10. -/
theorem test_decode_negative : leaves (exec .decode { State.reset with packetBuffer := [(0, 0x37), (1, 0xFF), (2, 0xFF)] })
    State.packet = some ⟨true, true, true, -255, -255⟩ ∧ deltaCarrier true 0xFF = 0x101 := by decide
/-- V-DEC-13 and V-DEC-11. -/
theorem test_decode_edges : eventOf 0x08 0x80 0x7F = ⟨false, false, false, 128, 127⟩ ∧
    eventOf 0x10 0x00 0x00 = ⟨false, false, false, 0, 0⟩ ∧ deltaCarrier true 0x00 = 0x000 := by decide
theorem test_emit : leaves (exec .emit { State.reset with packet := ⟨true, false, false, -5, 3⟩ }) State.trace
    = some [.emit ⟨true, false, false, -5, 3⟩] := by decide
/-- R176: 2 plus -5 modulo 2^16. -/
theorem test_accUpdate_add : leaves (exec .accUpdate { State.reset with
    cumulativeX := 2, cumulativeY := 0xFFFF, packet := ⟨false, false, false, -5, 3⟩ })
    (fun t => (t.cumulativeX, t.cumulativeY)) = some (0xFFFD, 0x0002) := by decide
theorem test_accUpdate_assign : leaves (exec .accUpdate { State.reset with
    params := { defaults with accMode := .assign }, cumulativeX := 2, packet := ⟨false, false, false, -5, 3⟩ })
    (fun t => (t.cumulativeX, t.cumulativeY)) = some (0xFFFB, 0x0003) := by decide

/-! ## Witnesses for the hypotheses of the obligations -/

/-- The parameters with an 8-bit counter. -/
def narrow : Params := { defaults with cntW := some 8 }

/-- Nothing else moves and no RESET is outstanding. -/
theorem undisturbed_of {s : State} (h : s.schedule = [] ∧ s.resetReq = false) : Undisturbed s := ⟨h.1, h.2⟩

/-- Coherence from its decidable parts, at an unbounded counter. -/
theorem coherent_of_parts {s : State} (hb : s.packetBuffer.wf = true) (hp : s.params.wf = true) (hw : s.params.cntW = none)
    (h : (isQuiescent s.mode = false → s.seq = .A1 → s.pollN ≤ s.params.pollBound) ∧
      (isQuiescent s.mode = false → s.seq = .A1 → waitBefore s.retAwait = some s.dir) ∧
      (s.mode = .init → s.position ∈ initLabels ++ sendLabels) ∧
      (s.mode = .service → s.position ∈ handlerLabels) ∧
      (s.mode = .init → s.position ∈ sendLabels → (s.retSend, s.cmd) ∈ [(Label.I6, (0xF6 : Byte)), (Label.I7, 0xF4)]) ∧
      (s.mode = .init → s.position ∈ [Label.I4a, .I4b, .I4c, .I4d] → s.cfg.getLsbD 1 = true)) : Coherent s :=
  ⟨hb, hp, fun w hk => (by rw [hw] at hk; cases hk), h.1, h.2.1, h.2.2.1, h.2.2.2.1, h.2.2.2.2.1, h.2.2.2.2.2⟩

/-- INIT's end, with the accesses of R141 behind it. -/
def initDone : State :=
  { standing .init .I8 with
    retSend := .I7
    cmd := 0xF4
    trace := [.write 0x64 0xA8, .write 0x64 0x20, .read 0x60 0x45, .write 0x64 0x60, .write 0x60 0x47, .write 0x64 0xD4,
      .write 0x60 0xF6, .read 0x60 0xFA, .write 0x64 0xD4, .write 0x60 0xF4, .read 0x60 0xFA, .enableIrq 12 0] }

/-- One packet, that of X1, received since reset. -/
def framedState : State :=
  { standing .armed .H7 with
    bytesReceived := 3
    packetBuffer := bufferX1
    trace := [.read 0x60 0x09, .read 0x60 0x05, .read 0x60 0x03, .emit ⟨true, false, false, 5, 3⟩] }

/-! ### Requests, modes and reset -/

theorem witness_ResetForgetsEveryRegister : ∃ s r : State, s ≠ r ∧ s.params = r.params ∧ s.draws = r.draws ∧
    s.trace = r.trace ∧ s.diags = r.diags ∧ s.initReq = r.initReq ∧ s.irqReq = r.irqReq ∧ s.schedule = r.schedule ∧
    s.arbiter = r.arbiter ∧ s.statusAnswers = r.statusAnswers ∧ s.dataAnswers = r.dataAnswers :=
  ⟨State.reset, serving .H4 5 bufferX1 [] [], by decide⟩

theorem witness_InitAcceptedWhenQuiescent : (State.reset.mode = .off ∨ State.reset.mode = .armed) ∧
    (let s := standing .armed .H7; s.mode = .off ∨ s.mode = .armed) ∧
    (let s := standing .init .I0; s.mode = .init ∨ s.mode = .service) ∧
    (let s := standing .service .H1; s.mode = .init ∨ s.mode = .service) := by decide

theorem witness_IrqAcceptedWhenArmed : (standing .armed .H7).mode = .armed ∧ State.reset.mode ≠ .armed ∧
    (standing .init .I0).mode ≠ .armed ∧ (standing .service .H1).mode ≠ .armed := by decide

theorem witness_RequestsAccepted_reset : let s := { standing .service .H3 with resetReq := true }
    s.schedule = [] ∧ s.resetReq = true := by decide
theorem witness_RequestsAccepted_off : let s := { State.reset with initReq := true }
    s.schedule = [] ∧ s.resetReq = false ∧ s.mode = .off ∧ s.initReq = true := by decide
theorem witness_RequestsAccepted_alone :
    (let s := { standing .armed .H7 with irqReq := true }
     s.schedule = [] ∧ s.resetReq = false ∧ s.mode = .armed ∧ s.irqReq = true ∧ s.initReq = false) ∧
    (let s := { standing .armed .H7 with initReq := true }
     s.schedule = [] ∧ s.resetReq = false ∧ s.mode = .armed ∧ s.irqReq = false ∧ s.initReq = true) := by decide
theorem witness_RequestsAccepted_both :
    let s := { standing .armed .H7 with irqReq := true, initReq := true }
    s.schedule = [] ∧ s.resetReq = false ∧ s.mode = .armed ∧ s.irqReq = true ∧ s.initReq = true ∧
    { s with arbiter := [true] }.arbiter = true :: [] ∧ { s with arbiter := [false] }.arbiter = false :: [] := by decide

theorem witness_RunOverChangesNothing : (State.reset.schedule = [] ∧ RunOver State.reset) ∧
    ((standing .armed .H7).schedule = [] ∧ RunOver (standing .armed .H7)) :=
  ⟨⟨rfl, rfl, .inl ⟨rfl, rfl⟩⟩, ⟨rfl, rfl, .inr ⟨rfl, rfl, rfl⟩⟩⟩

theorem witness_ModeTransitions_reset : let s := { standing .armed .H7 with resetReq := true }
    Coherent s ∧ ∃ t, step s = .next t ∧ t.mode ≠ s.mode :=
  ⟨coherent_of_parts rfl rfl rfl (by decide), _, rfl, by decide⟩
theorem witness_ModeTransitions_init : let s := { State.reset with initReq := true }
    Coherent s ∧ ∃ t, step s = .next t ∧ t.mode ≠ s.mode :=
  ⟨coherent_of_parts rfl rfl rfl (by decide), _, rfl, by decide⟩
theorem witness_ModeTransitions_initEnd : Coherent initDone ∧ ∃ t, step initDone = .next t ∧ t.mode ≠ initDone.mode :=
  ⟨coherent_of_parts rfl rfl rfl (by decide), _, rfl, by decide⟩
theorem witness_ModeTransitions_irq : let s := { standing .armed .H7 with irqReq := true }
    Coherent s ∧ ∃ t, step s = .next t ∧ t.mode ≠ s.mode :=
  ⟨coherent_of_parts rfl rfl rfl (by decide), _, rfl, by decide⟩
theorem witness_ModeTransitions_return : let s := standing .service .H7
    Coherent s ∧ ∃ t, step s = .next t ∧ t.mode ≠ s.mode :=
  ⟨coherent_of_parts rfl rfl rfl (by decide), _, rfl, by decide⟩

theorem witness_OffLeavesOnlyByInit : let s := { State.reset with initReq := true, irqReq := true }
    s.mode = .off ∧ s.resetReq = false ∧ ∃ t, step s = .next t :=
  ⟨rfl, rfl, _, rfl⟩

theorem witness_BusyBlockHoldsRequests : let s := { standing .service .H7 with initReq := true, irqReq := true }
    isQuiescent s.mode = false ∧ Undisturbed s ∧ ∃ t, step s = .next t :=
  ⟨rfl, undisturbed_of (by decide), _, rfl⟩

theorem witness_OutsideMovesTouchOnlyLines : ∀ m ∈ [Move.raiseReset, .raiseInit, .deliverIrq, .dropIrq],
    ∃ s : State, s.schedule = m :: [] := fun m _ => ⟨{ State.reset with schedule := [m] }, rfl⟩

theorem witness_PremiseBreakersAreRefused : ∀ m ∈ [Move.foreignAccess, .nestedHandler],
    (∃ s : State, s.schedule = m :: [] ∧ isQuiescent s.mode = false) ∧
    (∃ s : State, s.schedule = m :: [] ∧ isQuiescent s.mode = true) := fun m _ =>
  ⟨⟨{ standing .service .H3 with schedule := [m] }, rfl, rfl⟩, ⟨{ State.reset with schedule := [m] }, rfl, rfl⟩⟩

/-! ### Ports and the wait -/

theorem witness_PortReadResult : let s := { State.reset with statusAnswers := [0x01], dataAnswers := [0xFA, 0x00] }
    s.statusAnswers = 0x01 :: [] ∧ s.dataAnswers = 0xFA :: [0x00] := by decide

theorem witness_UnscriptedReadsAreFree : State.reset.statusAnswers = [] ∧ State.reset.dataAnswers = [] := by decide

theorem witness_WaitStep_exhausted : let s := waiting .recv 2 []
    isQuiescent s.mode = false ∧ Undisturbed s ∧ s.seq = .A1 ∧ s.pollN = s.params.pollBound :=
  ⟨rfl, undisturbed_of (by decide), rfl, rfl⟩
theorem witness_WaitStep_read : ∀ d : Dir, ∀ b ∈ [(0x00 : Byte), 0x01, 0x02, 0xFF], let s := waiting d 1 [b]
    isQuiescent s.mode = false ∧ Undisturbed s ∧ s.seq = .A1 ∧ s.pollN ≠ s.params.pollBound ∧ s.statusAnswers = b :: [] :=
  fun _ _ _ => ⟨rfl, undisturbed_of ⟨rfl, rfl⟩, rfl, (by decide : (1 : Nat) ≠ 2), rfl⟩

/-- V-AW-9's shape: met on the last allowed read. -/
theorem witness_WaitEndsAtFirstMetRead : let s := waiting .recv 0 [0x02, 0x01, 0x00]
    isQuiescent s.mode = false ∧ Undisturbed s ∧ s.seq = .A1 ∧ s.statusAnswers = [0x02] ++ 0x01 :: [0x00] ∧
    (∀ a ∈ [(0x02 : Byte)], waitMet s.dir a = false) ∧ waitMet s.dir 0x01 = true ∧
    s.pollN + [(0x02 : Byte)].length < s.params.pollBound :=
  ⟨rfl, undisturbed_of (by decide), rfl, rfl, by decide⟩

/-- V-AW-5 and, at a bound of zero, V-AW-10. -/
theorem witness_WaitDegradesAfterBound :
    (let s := waiting .send 0 [0x03, 0xFF]
     isQuiescent s.mode = false ∧ Undisturbed s ∧ s.seq = .A1 ∧ s.pollN = 0 ∧ s.statusAnswers = [0x03, 0xFF] ++ [] ∧
     [(0x03 : Byte), 0xFF].length = s.params.pollBound ∧ ∀ a ∈ [(0x03 : Byte), 0xFF], waitMet s.dir a = false) ∧
    (let s := { waiting .recv 0 [] with params := { defaults with pollBound := 0 } }
     isQuiescent s.mode = false ∧ Undisturbed s ∧ s.seq = .A1 ∧ s.pollN = 0 ∧ s.statusAnswers = [] ++ [] ∧
     ([] : List Byte).length = s.params.pollBound ∧ ∀ a ∈ ([] : List Byte), waitMet s.dir a = false) :=
  ⟨⟨rfl, undisturbed_of (by decide), rfl, rfl, rfl, rfl, by decide⟩,
   ⟨rfl, undisturbed_of (by decide), rfl, rfl, rfl, rfl, by decide⟩⟩

theorem witness_WaitAlwaysEnds : ∀ n ∈ [0, 2], let s := waiting .send n []
    isQuiescent s.mode = false ∧ Undisturbed s ∧ s.seq = .A1 ∧ s.pollN ≤ s.params.pollBound :=
  fun n hn => ⟨rfl, undisturbed_of ⟨rfl, rfl⟩, rfl, (by decide : ∀ n ∈ [0, 2], n ≤ 2) n hn⟩

/-! ### The acknowledgement -/

theorem witness_AckResult : { State.reset with dataAnswers := [0xFA] }.dataAnswers = 0xFA :: [] ∧
    { State.reset with dataAnswers := [0xFB] }.dataAnswers = 0xFB :: [] := by decide

/-- V-SDC-4's answers. -/
theorem witness_AckLoopDiscardsUntilAck : let s := { standing .init .S6 with dataAnswers := [0xFE, 0xFC, 0x09, 0xFA] }
    isQuiescent s.mode = false ∧ Undisturbed s ∧ s.seq = .S6 ∧ s.dataAnswers = [0xFE, 0xFC, 0x09] ++ 0xFA :: [] ∧
    (0xFA : Byte) ∉ [(0xFE : Byte), 0xFC, 0x09] :=
  ⟨rfl, undisturbed_of (by decide), rfl, rfl, by decide⟩

theorem witness_AckLoopStallsWithoutAck : let s := { standing .init .S6 with dataAnswers := [0x7A, 0xFB] }
    s.mode = .init ∧ Undisturbed s ∧ s.seq = .S6 ∧ s.dataAnswers = [0x7A, 0xFB] ++ [] ∧
    (0xFA : Byte) ∉ [(0x7A : Byte), 0xFB] :=
  ⟨rfl, undisturbed_of (by decide), rfl, rfl, by decide⟩

/-- V-SDC-1 and its counterpart for 0xF4, with one discarded byte. -/
theorem witness_SendDeviceCommandRun : ∀ p ∈ [(Label.I5, (0xF6 : Byte)), (.I6, 0xF4)],
    let s := { standing .init p.1 with statusAnswers := [0x00, 0x00, 0x01], dataAnswers := [0x09, 0xFA] }
    s.mode = .init ∧ Undisturbed s ∧ 0 < s.params.pollBound ∧ (s.seq = .I5 ∧ p.2 = 0xF6 ∨ s.seq = .I6 ∧ p.2 = 0xF4) ∧
    (0x00 : Byte).getLsbD 1 = false ∧ (0x01 : Byte).getLsbD 0 = true ∧ s.statusAnswers = 0x00 :: 0x00 :: 0x01 :: [] ∧
    s.dataAnswers = [0x09] ++ 0xFA :: [] ∧ (0xFA : Byte) ∉ [(0x09 : Byte)] := fun p hp =>
  ⟨rfl, undisturbed_of ⟨rfl, rfl⟩, (by decide : 0 < 100000),
    (by decide : ∀ p ∈ [(Label.I5, (0xF6 : Byte)), (.I6, 0xF4)], p.1 = .I5 ∧ p.2 = 0xF6 ∨ p.1 = .I6 ∧ p.2 = 0xF4) p hp,
    by decide, by decide, rfl, rfl, by decide⟩

/-! ### INIT -/

theorem witness_ConfigurationByteSteps :
    (let s := { standing .init .I2d with dataAnswers := [0x45] }
     s.mode = .init ∧ Undisturbed s ∧ s.seq = .I2d ∧ s.dataAnswers = 0x45 :: []) ∧
    (let s := standing .init .I3; s.mode = .init ∧ Undisturbed s ∧ s.seq = .I3) ∧
    (let s := standing .init .I4d; s.mode = .init ∧ Undisturbed s ∧ s.seq = .I4d) :=
  ⟨⟨rfl, undisturbed_of (by decide), rfl, rfl⟩, ⟨rfl, undisturbed_of (by decide), rfl⟩,
   ⟨rfl, undisturbed_of (by decide), rfl⟩⟩

theorem witness_BusyStepRunsItsLabel :
    (let s := serving .H6 3 [] [] []; isQuiescent s.mode = false ∧ Undisturbed s ∧ s.bytesReceived % 3 = 0) ∧
    (let s := serving .H6 4 [] [] []; isQuiescent s.mode = false ∧ Undisturbed s ∧ s.bytesReceived % 3 ≠ 0) :=
  ⟨⟨rfl, undisturbed_of (by decide), rfl⟩, ⟨rfl, undisturbed_of (by decide), by decide⟩⟩

theorem witness_BusyBlockIsNeverStuck : isQuiescent (standing .init .A1).mode = false ∧
    (standing .init .A1).schedule = [] := by decide

theorem witness_InitStartsInitialising : isQuiescent State.reset.mode = true ∧ ∃ t, exec .init State.reset = .next t :=
  ⟨rfl, _, rfl⟩

theorem witness_InitAccessOrderKept_first : let s := standing .init .I0
    Coherent s ∧ Initialising [] s ∧ s.resetReq = false ∧ ∃ t, step s = .next t :=
  ⟨coherent_of_parts rfl rfl rfl (by decide), ⟨rfl, [], 0x00, rfl, rfl, rfl, rfl, rfl, by decide, by decide⟩, rfl, _, rfl⟩
theorem witness_InitAccessOrderKept_last :
    Coherent initDone ∧ Initialising [] initDone ∧ initDone.resetReq = false ∧ ∃ t, step initDone = .next t :=
  ⟨coherent_of_parts rfl rfl rfl (by decide),
    ⟨rfl, initDone.trace, 0x45, rfl, by decide, ⟨[], [], by decide, by decide, by decide⟩, rfl, rfl, by decide, by decide⟩,
    rfl, _, rfl⟩

theorem witness_InitBlocksOnlyAtAck : Coherent (standing .init .I0) ∧ (standing .init .I0).mode = .init ∧
    Undisturbed (standing .init .I0) :=
  ⟨coherent_of_parts rfl rfl rfl (by decide), rfl, undisturbed_of (by decide)⟩

theorem witness_CooperativeInitRun : ∀ m ∈ [Mode.off, .armed], let s := (standing m .H7).present (Asked.initOk 0x45)
    isQuiescent s.mode = true ∧ Undisturbed s ∧ s.initReq = true ∧ s.irqReq = false ∧ 0 < s.params.pollBound ∧
    s.params.wf = true ∧ s.statusAnswers = (Asked.initOk 0x45).status ∧ s.dataAnswers = (Asked.initOk 0x45).data :=
  fun m hm => ⟨(by decide : ∀ m ∈ [Mode.off, .armed], isQuiescent m = true) m hm, undisturbed_of ⟨rfl, rfl⟩, rfl, rfl,
    (by decide : 0 < 100000), rfl, rfl, rfl⟩

/-! ### HANDLE_IRQ -/

theorem witness_StoreByteResult : (serving .H4 5 bufferX1 [] []).packetBuffer.wf = true := by decide

theorem witness_SpuriousTestStep :
    (let s := serving .H2 0 [] [0x01] []; s.mode = .service ∧ Undisturbed s ∧ s.seq = .H2 ∧ s.statusAnswers = 0x01 :: []) ∧
    (let s := serving .H2 0 [] [0xFE] []; s.mode = .service ∧ Undisturbed s ∧ s.seq = .H2 ∧ s.statusAnswers = 0xFE :: []) ∧
    (let s := serving .H3 0 [] [] [0x09]; s.mode = .service ∧ Undisturbed s ∧ s.seq = .H3 ∧ s.dataAnswers = 0x09 :: []) :=
  ⟨⟨rfl, undisturbed_of (by decide), rfl, rfl⟩, ⟨rfl, undisturbed_of (by decide), rfl, rfl⟩,
   ⟨rfl, undisturbed_of (by decide), rfl, rfl⟩⟩

theorem witness_CountStep :
    (let s := serving .H5 2 [] [] []; s.mode = .service ∧ Undisturbed s ∧ s.seq = .H5 ∧ s.params.cntW = none) ∧
    (let s := { serving .H5 255 [] [] [] with params := narrow }
     s.mode = .service ∧ Undisturbed s ∧ s.seq = .H5 ∧ s.params.cntW = some 8) :=
  ⟨⟨rfl, undisturbed_of (by decide), rfl, rfl⟩, ⟨rfl, undisturbed_of (by decide), rfl, rfl⟩⟩

theorem witness_PacketCompletionStep :
    (let s := serving .H6 3 bufferX1 [] []; s.mode = .service ∧ Undisturbed s ∧ s.seq = .H6 ∧ s.bytesReceived % 3 = 0) ∧
    (let s := serving .H6 2 bufferX1 [] []; s.mode = .service ∧ Undisturbed s ∧ s.seq = .H6 ∧ s.bytesReceived % 3 ≠ 0) :=
  ⟨⟨rfl, undisturbed_of (by decide), rfl, rfl⟩, ⟨rfl, undisturbed_of (by decide), rfl, by decide⟩⟩

/-- V-H-1 to V-H-3: phases 0, 1 and 2. -/
theorem witness_ByteServiceRun : ∀ n : Nat,
    let s := { serving .H7 n bufferX1 [0x01, 0x01] [0x03] with mode := .armed, irqReq := true }
    s.mode = .armed ∧ Undisturbed s ∧ s.irqReq = true ∧ s.initReq = false ∧ 0 < s.params.pollBound ∧
    s.packetBuffer.wf = true ∧ s.params.cntW = none ∧ (0x01 : Byte).getLsbD 0 = true ∧
    s.statusAnswers = 0x01 :: 0x01 :: [] ∧ s.dataAnswers = 0x03 :: [] := fun _ =>
  ⟨rfl, undisturbed_of ⟨rfl, rfl⟩, rfl, rfl, (by decide : 0 < 100000), rfl, rfl, by decide, rfl, rfl⟩

theorem witness_SpuriousServiceRun :
    let s := { waiting .recv 0 [0x00, 0x02, 0xFE] with mode := .armed, irqReq := true }
    s.mode = .armed ∧ Undisturbed s ∧ s.irqReq = true ∧ s.initReq = false ∧
    s.statusAnswers = [0x00, 0x02] ++ 0xFE :: [] ∧ [(0x00 : Byte), 0x02].length = s.params.pollBound ∧
    (∀ a ∈ [(0x00 : Byte), 0x02], a.getLsbD 0 = false) ∧ (0xFE : Byte).getLsbD 0 = false :=
  ⟨rfl, undisturbed_of (by decide), rfl, rfl, rfl, rfl, by decide⟩

theorem witness_HandlerAlwaysReturns : Coherent (standing .service .H1) ∧ (standing .service .H1).mode = .service ∧
    Undisturbed (standing .service .H1) :=
  ⟨coherent_of_parts rfl rfl rfl (by decide), rfl, undisturbed_of (by decide)⟩

theorem framed_framedState : Framed [] framedState :=
  ⟨.inl rfl, rfl, framedState.trace, rfl, [0x09, 0x05, 0x03], by decide, by decide, ⟨0, by decide⟩, by decide,
    fun k b hk hl _ => (by decide : ∀ k < 3, ∀ b, [(0x09 : Byte), 0x05, 0x03][k]? = some b →
      framedState.packetBuffer.read (phaseOf k) = b) k hl b hk, by decide⟩

theorem witness_FramingKept : let s := { framedState with irqReq := true }
    Coherent s ∧ Framed [] s ∧ ∃ t, step s = .next t ∧ (t.mode = .armed ∨ t.mode = .service) :=
  ⟨coherent_of_parts rfl rfl rfl (by decide), ⟨framed_framedState.1, framed_framedState.2, framed_framedState.3⟩,
    _, rfl, .inr rfl⟩

theorem witness_FramingStartsAtPhaseZero : framedState.mode = .armed ∧ framedState.params.cntW = none ∧
    framedState.phase = 0 := by decide

theorem witness_FramingBetweenInvocations : Framed [] framedState ∧ framedState.mode = .armed ∧
    readsAt 0x60 framedState.trace = [] ++ [0x09, 0x05, 0x03] ∧ framedState.phase = 0 :=
  ⟨framed_framedState, by decide⟩

/-! ### Decoding, the whole machine, encoding -/

theorem witness_DecodeIgnoresUnusedFlagBits : ∀ i ∈ [0, 1, 2, 4, 5], (0xC9 : Byte).getLsbD i = (0x01 : Byte).getLsbD i := by
  decide

theorem witness_AccUpdateResult : ∀ m : AccMode, ∃ s : State, s.params.accMode = m :=
  fun m => ⟨{ State.reset with params := { defaults with accMode := m } }, rfl⟩

theorem witness_CoherenceKept : Coherent initDone ∧ ∃ t, step initDone = .next t :=
  ⟨coherent_of_parts rfl rfl rfl (by decide), _, rfl⟩

theorem witness_DriverStateSingleWriter : let s := serving .H5 2 [] [] []
    ∃ t, step s = .next t ∧ t.driverState ≠ s.driverState := ⟨_, rfl, by decide⟩

theorem witness_OnlyStoresTouchTheBuffer : (∃ t, exec .emit State.reset = .next t) ∧
    Instr.emit ∉ [Instr.reset, .zeroState, .storeByte] := ⟨⟨_, rfl⟩, by decide⟩

theorem witness_OneAccessAStep : ∃ t, step (serving .H6 3 bufferX1 [] []) = .next t := ⟨_, rfl⟩

theorem witness_OnlySpecifiedBytesWritten : let s := { standing .init .I4d with cfg := 0x47 }
    Coherent s ∧ ∃ t, step s = .next t ∧ t.trace = s.trace ++ [.write 0x60 0x47] ∧
      ((0x60 : Nat), (0x47 : Byte)) ∈ writesOf [.write 0x60 0x47] :=
  ⟨coherent_of_parts rfl rfl rfl (by decide), _, rfl, rfl, by decide⟩

theorem witness_EncodeDecodeAgree : encode .devSetDefaults = some [0xF6] ∧
    Sys2Proof.decode [0xF6, 0x01] = .ok (.devSetDefaults, [0x01]) ∧ encode .storeByte = none ∧
    encode (.ctrlWrite 0xD4) = none := ⟨by decide, rfl, by decide, by decide⟩

theorem witness_StepRunsDecodedOperation : decodeTableWord 3 0b010 = some .init ∧ labelOf .init = none ∧
    decodeTableWord 8 0xA8 = some .auxEnable ∧ labelOf .auxEnable = some .I1b := by decide

/-! ### The named premises -/

theorem visits_initDone {u : State} (h : Visits initDone u) : u = initDone ∨ u = { initDone with mode := .armed } :=
  (visits_step (t := { initDone with mode := .armed }) rfl h).imp_right (visits_idle rfl)

theorem witness_NamedPremises_run : Coherent initDone ∧ PExclusive initDone ∧ PSerial initDone ∧ PNoDegrade initDone ∧
    Visits initDone { initDone with mode := .armed } := by
  refine ⟨coherent_of_parts rfl rfl rfl (by decide), fun u hu _ => ?_, fun u hu _ => ?_, fun u hu hb hs => ?_, 1, rfl⟩
  · rcases visits_initDone hu with rfl | rfl <;> decide
  · rcases visits_initDone hu with rfl | rfl <;> decide
  · rcases visits_initDone hu with rfl | rfl <;> cases hs

/-- A foreign access is no breach of `P_EXCLUSIVE` where the block is quiescent, and is one at `S6`. -/
theorem test_PExclusive_by_mode : PExclusive { State.reset with schedule := [.foreignAccess] } ∧
    ¬ PExclusive { standing .init .S6 with schedule := [.foreignAccess] } := by
  refine ⟨fun u hu hb => ?_, fun h => h _ ⟨0, rfl⟩ rfl rfl⟩
  rcases visits_step (t := State.reset) rfl hu with rfl | hu
  · cases hb
  · rw [visits_idle rfl hu] at hb; cases hb

/-- The second acknowledgement loop, its 0xFA next. -/
def acknowledged : State := { standing .init .S6 with retSend := .I7, cmd := 0xF4, dataAnswers := [0xFA] }

theorem witness_NamedPremises_ack : Coherent acknowledged ∧ acknowledged.mode = .init ∧ Undisturbed acknowledged ∧
    PAck acknowledged := by
  refine ⟨coherent_of_parts rfl rfl rfl (by decide), rfl, undisturbed_of (by decide), fun u hu _ hs => ?_⟩
  rcases visits_step (t := acknowledged.readData.goto .I7) rfl hu with rfl | hu
  · refine ⟨0, acknowledged, rfl, ⟨_, rfl, rfl⟩, fun i v hi hv => ?_⟩
    obtain rfl : i = 0 := Nat.le_zero.1 hi
    cases hv; exact ⟨rfl, rfl⟩
  rcases visits_step (t := ((acknowledged.readData.goto .I7).record (.enableIrq 12 0)).goto .I8) rfl hu with rfl | hu
  · cases hs
  rcases visits_step (t := { ((acknowledged.readData.goto .I7).record (.enableIrq 12 0)).goto .I8 with mode := .armed })
    rfl hu with rfl | hu
  · cases hs
  · rw [visits_idle rfl hu] at hs; cases hs

/-- INIT has just ended and the device's next byte, the first of its second packet, is announced. -/
def firstByte : State :=
  { standing .armed .I8 with irqReq := true, statusAnswers := [0x01, 0x01], dataAnswers := [0x09] }

/-- A mouse that had sent one packet before INIT ended. -/
def mouse : Device := ⟨[0x08, 0x00, 0x00, 0x09], 3, 3⟩

theorem firstByte_modes : ∀ i ≤ 9, leaves (runSteps i firstByte) (fun t => decide (t.mode = .armed ∨ t.mode = .service))
    = some true := by decide

theorem firstByte_consumed : leaves (runSteps 9 firstByte) (consumedSince firstByte) = some [0x09] ∧
    leaves (runSteps 9 firstByte) State.mode = some .armed := by decide

theorem justInitialised_firstByte : JustInitialised firstByte := ⟨rfl, rfl, rfl⟩

theorem witness_NamedPremises_device : Coherent firstByte ∧ firstByte.params.cntW = none ∧ PNoLoss mouse firstByte 9 ∧
    PAligned mouse firstByte 9 ∧ leaves (runSteps 9 firstByte) State.mode = some .armed := by
  have hc : ∀ t, runSteps 9 firstByte = .next t → consumedSince firstByte t = [0x09] := fun t ht => by
    have := firstByte_consumed.1
    rw [ht] at this
    exact Option.some.inj this
  refine ⟨coherent_of_parts rfl rfl rfl (by decide), rfl, ⟨justInitialised_firstByte, fun i u hi hu => ?_, rfl, hc⟩,
    ⟨justInitialised_firstByte, by decide, fun t b rest ht h => ?_⟩, firstByte_consumed.2⟩
  · have := firstByte_modes i hi
    rw [hu] at this
    exact of_decide_eq_true (Option.some.inj this)
  · rw [hc t ht] at h
    cases h; rfl

end Sys2Proof.Machine
end

section
/-! What a step puts out (R8, R35, R60): nothing, one trace record, or one diagnostic, and never two of them. -/

namespace Sys2Proof.Machine

/-- From `s` to `t` the parameters stay, the outputs only grow, and by at most one entry over both lists. -/
inductive AtMostOneOutput (s t : State) : Prop where
  | silent (hparams : t.params = s.params) (htrace : t.trace = s.trace) (hdiags : t.diags = s.diags)
  | recorded (o : Obs) (hparams : t.params = s.params) (htrace : t.trace = s.trace ++ [o]) (hdiags : t.diags = s.diags)
  | reported (d : Diag) (hparams : t.params = s.params) (htrace : t.trace = s.trace) (hdiags : t.diags = s.diags ++ [d])

/-- Which moves are still to come says nothing about outputs. -/
theorem AtMostOneOutput.of_schedule {s t : State} {rest : List Move}
    (h : AtMostOneOutput { s with schedule := rest } t) : AtMostOneOutput s t := by
  cases h with
  | silent hparams htrace hdiags => exact .silent hparams htrace hdiags
  | recorded o hparams htrace hdiags => exact .recorded o hparams htrace hdiags
  | reported d hparams htrace hdiags => exact .reported d hparams htrace hdiags

/-- The two lists of new entries, each of length at most one. -/
theorem AtMostOneOutput.exists_append {s t : State} (h : AtMostOneOutput s t) :
    t.params = s.params ∧ ∃ since diags,
      t.trace = s.trace ++ since ∧ since.length ≤ 1 ∧ t.diags = s.diags ++ diags ∧ diags.length ≤ 1 := by
  cases h with
  | silent hparams htrace hdiags => exact ⟨hparams, [], [], by simp [htrace, hdiags]⟩
  | recorded o hparams htrace hdiags => exact ⟨hparams, [o], [], by simp [htrace, hdiags]⟩
  | reported d hparams htrace hdiags => exact ⟨hparams, [], [d], by simp [htrace, hdiags]⟩

/-- The acknowledgement's step is one data read, whatever byte it answers (R113). -/
theorem runLabel_S6_goto {s : State} (h : s.seq = .S6) :
    runLabel s = .next (s.readData.goto (if isAck s.dataAnswer then s.retSend else .S6)) := by
  rw [runLabel_S6 h]
  split <;> rfl

/-- R28: a label makes one port access, one `EnableIrq` call, one event or one report, or none. -/
theorem runLabel_atMostOneOutput (s : State) : ∃ t, runLabel s = .next t ∧ AtMostOneOutput s t := by
  cases h : s.seq
  case I0 => exact ⟨_, runLabel_I0 h, .silent rfl rfl rfl⟩
  case I1a | I2a | I4a | I4c | S1 | S3 => exact ⟨_, runLabel_awaitSend (by simp [h]), .silent rfl rfl rfl⟩
  case I2c | S5 | H1 => exact ⟨_, runLabel_awaitRecv (by simp [h]), .silent rfl rfl rfl⟩
  case I1b => exact ⟨_, runLabel_I1b h, .recorded _ rfl rfl rfl⟩
  case I2b => exact ⟨_, runLabel_I2b h, .recorded _ rfl rfl rfl⟩
  case I2d => exact ⟨_, runLabel_I2d h, .recorded _ rfl rfl rfl⟩
  case I3 => exact ⟨_, runLabel_I3 h, .silent rfl rfl rfl⟩
  case I4b => exact ⟨_, runLabel_I4b h, .recorded _ rfl rfl rfl⟩
  case I4d => exact ⟨_, runLabel_I4d h, .recorded _ rfl rfl rfl⟩
  case I5 => exact ⟨_, runLabel_I5 h, .silent rfl rfl rfl⟩
  case I6 => exact ⟨_, runLabel_I6 h, .silent rfl rfl rfl⟩
  case I7 => exact ⟨_, runLabel_I7 h, .recorded _ rfl rfl rfl⟩
  case I8 => exact ⟨_, runLabel_I8 h, .silent rfl rfl rfl⟩
  case S2 => exact ⟨_, runLabel_S2 h, .recorded _ rfl rfl rfl⟩
  case S4 => exact ⟨_, runLabel_S4 h, .recorded _ rfl rfl rfl⟩
  case S6 => exact ⟨_, runLabel_S6_goto h, .recorded _ rfl rfl rfl⟩
  case A1 =>
    by_cases hp : s.pollN = s.params.pollBound
    · exact ⟨_, runLabel_A1_exhausted h hp, .reported _ rfl rfl rfl⟩
    · cases hm : waitMet s.dir s.statusAnswer
      · exact ⟨_, runLabel_A1_again h hp hm, .recorded _ rfl rfl rfl⟩
      · exact ⟨_, runLabel_A1_met h hp hm, .recorded _ rfl rfl rfl⟩
  case H2 => exact ⟨_, runLabel_H2 h, .recorded _ rfl rfl rfl⟩
  case H3 => exact ⟨_, runLabel_H3 h, .recorded _ rfl rfl rfl⟩
  case H4 => exact ⟨_, runLabel_H4 h, .silent rfl rfl rfl⟩
  case H5 => exact ⟨_, runLabel_H5 h, .silent rfl rfl rfl⟩
  case H6 =>
    cases hc : packetComplete s.bytesReceived
    · exact ⟨_, runLabel_H6_partial h hc, .silent rfl rfl rfl⟩
    · exact ⟨_, runLabel_H6_complete h hc, .recorded _ rfl rfl rfl⟩
  case H7 => exact ⟨_, runLabel_H7 h, .silent rfl rfl rfl⟩

/-- R198, R202, R220: RESET, an acceptance and an idle turn put out nothing, so the block's output is its label's. -/
theorem blockTurn_atMostOneOutput {s t : State} (h : blockTurn s = .next t) : AtMostOneOutput s t := by
  obtain ⟨-, rfl⟩ | ⟨-, ⟨-, hl⟩ | ⟨-, -, rfl | rfl⟩ | ⟨-, -, rfl | rfl⟩ | ⟨-, -, -, rfl⟩⟩ := blockTurn_cases h
  case inr.inl =>
    obtain ⟨u, hu, ho⟩ := runLabel_atMostOneOutput s
    cases hl.symm.trans hu
    exact ho
  all_goals exact .silent rfl rfl rfl

/-- R8, R243: another agent's move puts out nothing, and the block's at most one entry. -/
theorem step_atMostOneOutput {s t : State} (h : step s = .next t) : AtMostOneOutput s t := by
  obtain ⟨-, hb⟩ | ⟨rest, -, hb⟩ | ⟨m, rest, -, -, r, i, q, rfl, -⟩ := step_cases h
  · exact blockTurn_atMostOneOutput hb
  · exact (blockTurn_atMostOneOutput hb).of_schedule
  · exact .silent rfl rfl rfl

/-- Settles O55, from what the block's turn and every other agent's move put out. -/
theorem oneAccessAStep : Obligations.OneAccessAStep :=
  fun _ _ h => (step_atMostOneOutput h).exists_append

end Sys2Proof.Machine
end

section
/-! The shape of a state (R21, R22, R26 to R28, R52, R81, R135): what `Coherent` says, in terms of the registers it speaks of, and
that every step keeps it. -/

namespace Sys2Proof.Machine

open Sys2Proof.Config

/-! ## `Coherent`, by the registers it speaks of -/

/-- What `Coherent` says of the parameters and of Driver State. -/
structure Bounded (params : Params) (packetBuffer : Memory) (count : Nat) : Prop where
  buffer : packetBuffer.wf = true
  ports : params.wf = true
  count : ∀ w, params.cntW = some w → count < 2 ^ w

/-- What `Coherent` says of a position in a mode, with the registers that the labels at that position send. -/
structure Placed (mode : Mode) (position retSend : Label) (cmd cfg : Byte) : Prop where
  inInit : mode = .init → position ∈ initLabels ++ sendLabels
  inService : mode = .service → position ∈ handlerLabels
  inSend : mode = .init → position ∈ sendLabels → (retSend, cmd) ∈ [(Label.I6, (0xF6 : Byte)), (Label.I7, 0xF4)]
  configured : mode = .init → position ∈ [Label.I4a, .I4b, .I4c, .I4d] → cfg.getLsbD 1 = true

theorem Coherent.bounded {s : State} (h : Coherent s) : Bounded s.params s.packetBuffer s.bytesReceived :=
  ⟨h.buffer, h.ports, h.count⟩

theorem Coherent.placed {s : State} (h : Coherent s) : Placed s.mode s.position s.retSend s.cmd s.cfg :=
  ⟨h.inInit, h.inService, h.inSend, h.configured⟩

/-- Outside a wait the position is the label itself. -/
theorem State.position_of_ne_A1 {s : State} (h : s.seq ≠ .A1) : s.position = s.seq := if_neg h

/-- In a wait the position is the label it resumes at. -/
theorem State.position_of_A1 {s : State} (h : s.seq = .A1) : s.position = s.retAwait := if_pos h

theorem Coherent.placed_seq {s : State} {l : Label} (h : Coherent s) (hs : s.seq = l) (hl : l ≠ .A1) :
    Placed s.mode l s.retSend s.cmd s.cfg := by
  subst hs
  exact State.position_of_ne_A1 hl ▸ h.placed

theorem Coherent.placed_retAwait {s : State} (h : Coherent s) (hs : s.seq = .A1) :
    Placed s.mode s.retAwait s.retSend s.cmd s.cfg :=
  State.position_of_A1 hs ▸ h.placed

/-! ## The count and the buffer -/

/-- A count cut to `CNT_W` bits is within `CNT_W` (R22). -/
theorem countIn_lt {c : Option Nat} {w : Nat} (n : Nat) (h : c = some w) : countIn c n < 2 ^ w := by
  subst h
  exact Nat.mod_lt n (Nat.two_pow_pos w)

theorem Bounded.zeroed {p : Params} (hp : p.wf = true) : Bounded p Memory.zeroed 0 :=
  ⟨Memory.wf_zeroed, hp, fun w _ => Nat.two_pow_pos w⟩

theorem Bounded.write {p : Params} {m : Memory} {n : Nat} (h : Bounded p m n) (i : Slot) (v : Byte) :
    Bounded p (m.write i v) n :=
  ⟨Memory.wf_write h.buffer, h.ports, h.count⟩

theorem Bounded.countIn {p : Params} {m : Memory} {n : Nat} (h : Bounded p m n) (k : Nat) :
    Bounded p m (countIn p.cntW k) :=
  ⟨h.buffer, h.ports, fun _ hw => countIn_lt k hw⟩

/-- R76, R135: the configuration byte written back has `AUX_INT_EN` set. -/
theorem withAuxInterrupt_bit_one (b : Byte) : (withAuxInterrupt b).getLsbD 1 = true := by
  simp [withAuxInterrupt, auxIntEn]

/-! ## Positions -/

section Placed

variable {m : Mode} {l r : Label} {c g : Byte}

theorem Placed.of_quiescent (h : isQuiescent m = true) : Placed m l r c g := by
  constructor <;> rintro rfl <;> cases h

theorem Placed.of_initLabels (hm : m ≠ .service) (hl : l ∈ initLabels)
    (hg : l ∉ [Label.I4a, .I4b, .I4c, .I4d] ∨ g.getLsbD 1 = true) : Placed m l r c g where
  inInit _ := List.mem_append_left _ hl
  inService h := absurd h hm
  inSend _ hs := absurd hs ((by decide : ∀ l ∈ initLabels, l ∉ sendLabels) l hl)
  configured _ h := hg.resolve_left (not_not_intro h)

theorem Placed.of_sendLabels (hm : m ≠ .service) (hl : l ∈ sendLabels)
    (hr : (r, c) ∈ [(Label.I6, (0xF6 : Byte)), (Label.I7, 0xF4)]) : Placed m l r c g where
  inInit _ := List.mem_append_right _ hl
  inService h := absurd h hm
  inSend _ _ := hr
  configured _ hg := absurd hg ((by decide : ∀ l ∈ sendLabels, l ∉ [Label.I4a, .I4b, .I4c, .I4d]) l hl)

theorem Placed.of_handlerLabels (hm : m ≠ .init) (hl : l ∈ handlerLabels) : Placed m l r c g where
  inInit h := absurd h hm
  inService _ := hl
  inSend h := absurd h hm
  configured h := absurd h hm

/-- R131: the position of an accepted INIT. -/
theorem Placed.initAccepted : Placed .init .I0 r c g :=
  .of_initLabels (by decide) (by decide) (.inl (by decide))

/-- R199: the position of an accepted notification. -/
theorem Placed.irqAccepted : Placed .service .H1 r c g :=
  .of_handlerLabels (by decide) (by decide)

theorem Placed.ne_service (h : Placed m l r c g) (hl : l ∉ handlerLabels) : m ≠ .service :=
  fun hm => hl (h.inService hm)

theorem Placed.ne_init (h : Placed m l r c g) (hl : l ∉ initLabels ++ sendLabels) : m ≠ .init :=
  fun hm => hl (h.inInit hm)

/-- A busy block's position is a label of its operation, never the wait itself. -/
theorem Placed.ne_A1 (h : Placed m l r c g) (hm : isQuiescent m = false) : l ≠ .A1 := by
  rintro rfl
  cases m
  case off | armed => cases hm
  case init => exact absurd (h.inInit rfl) (by decide)
  case service => exact absurd (h.inService rfl) (by decide)

/-- R28's "then" column stays in its sequence, and asks for nothing new but after `I3`, which sets bit 1 of `CFG`, and `I5` and
`I6`, which call SEND_DEVICE_COMMAND. -/
theorem Placed.next (h : Placed m l r c g) (hl : l ∉ [Label.I3, .I5, .I6]) : Placed m (nextLabel l) r c g where
  inInit hm := (by decide : ∀ l ∈ initLabels ++ sendLabels, nextLabel l ∈ initLabels ++ sendLabels) l (h.inInit hm)
  inService hm := (by decide : ∀ l ∈ handlerLabels, nextLabel l ∈ handlerLabels) l (h.inService hm)
  inSend hm hs := h.inSend hm <| (by decide : ∀ l ∈ initLabels ++ sendLabels, l ∉ [Label.I3, .I5, .I6] →
    nextLabel l ∈ sendLabels → l ∈ sendLabels) l (h.inInit hm) hl hs
  configured hm hg := h.configured hm <| (by decide : ∀ l ∈ initLabels ++ sendLabels, l ∉ [Label.I3, .I5, .I6] →
    nextLabel l ∈ [Label.I4a, .I4b, .I4c, .I4d] → l ∈ [Label.I4a, .I4b, .I4c, .I4d]) l (h.inInit hm) hl hg

/-- R81: SEND_DEVICE_COMMAND returns to one of the two labels of INIT that follow its calls. -/
theorem Placed.returned (h : Placed m l r c g) (hm : isQuiescent m = false) (hl : l ∈ sendLabels) :
    Placed m r r c g := by
  have hns : m ≠ .service := h.ne_service ((by decide : ∀ l ∈ sendLabels, l ∉ handlerLabels) l hl)
  have hmi : m = .init := by
    cases m
    case init => rfl
    case service => exact absurd rfl hns
    case off | armed => cases hm
  have hr : r = .I6 ∨ r = .I7 := by
    have := h.inSend hmi hl
    simp only [List.mem_cons, Prod.mk.injEq, List.not_mem_nil, or_false] at this
    exact this.imp And.left And.left
  obtain rfl | rfl := hr <;> exact .of_initLabels hns (by decide) (.inl (by decide))

end Placed

/-! ## Coherence of the next state -/

/-- A state that stands at a label of its operation is in no wait, so it needs no bound on the reads of one. -/
theorem Coherent.of_placed {t : State} (hb : Bounded t.params t.packetBuffer t.bytesReceived)
    (hp : Placed t.mode t.seq t.retSend t.cmd t.cfg) : Coherent t := by
  cases hq : isQuiescent t.mode
  case true =>
    obtain ⟨hi, hv, hs, hc⟩ : Placed t.mode t.position t.retSend t.cmd t.cfg := .of_quiescent hq
    exact ⟨hb.buffer, hb.ports, hb.count, by simp [hq], by simp [hq], hi, hv, hs, hc⟩
  case false =>
    have hne : t.seq ≠ .A1 := hp.ne_A1 hq
    obtain ⟨hi, hv, hs, hc⟩ := (State.position_of_ne_A1 hne).symm ▸ hp
    exact ⟨hb.buffer, hb.ports, hb.count, fun _ h => absurd h hne, fun _ h => absurd h hne, hi, hv, hs, hc⟩

/-- A state in a wait: the reads made are within the bound, and the label to resume at is one that a wait of its direction
ends at. -/
theorem Coherent.of_wait {t : State} (hb : Bounded t.params t.packetBuffer t.bytesReceived) (hs : t.seq = .A1)
    (hn : t.pollN ≤ t.params.pollBound) (hw : waitBefore t.retAwait = some t.dir)
    (hp : Placed t.mode t.retAwait t.retSend t.cmd t.cfg) : Coherent t := by
  obtain ⟨hi, hv, hsend, hc⟩ := (State.position_of_A1 hs).symm ▸ hp
  exact ⟨hb.buffer, hb.ports, hb.count, fun _ _ => hn, fun _ _ => hw, hi, hv, hsend, hc⟩

/-- The moves to come and the request lines are no part of the shape. -/
theorem Coherent.of_lines {s : State} (h : Coherent s) (schedule : List Move) (r i q : Bool) :
    Coherent { s with schedule := schedule, resetReq := r, initReq := i, irqReq := q } :=
  ⟨h.buffer, h.ports, h.count, h.polls, h.resumes, h.inInit, h.inService, h.inSend, h.configured⟩

/-- Going on as R28 says, from any label but `A1`, whose successor is the label to resume at, and the three after which the
position depends on a register that the label writes. -/
theorem Coherent.placed_next {s : State} {l : Label} (h : Coherent s) (hs : s.seq = l)
    (hl : l ∉ [Label.A1, .I3, .I5, .I6]) : Placed s.mode (nextLabel l) s.retSend s.cmd s.cfg := by
  obtain ⟨hA1, hcall⟩ := not_or.1 (mt List.mem_cons.2 hl)
  exact (h.placed_seq hs hA1).next hcall

/-- R26, R104: a wait that starts has made no read and resumes where R28 goes on. -/
theorem Coherent.callAwait {s : State} {l : Label} {d : Dir} (h : Coherent s) (hs : s.seq = l)
    (hl : l ∉ [Label.A1, .I3, .I5, .I6]) (hw : waitBefore (nextLabel l) = some d) : Coherent (s.callAwait d) := by
  subst hs
  exact .of_wait h.bounded rfl (Nat.zero_le _) hw (h.placed_next rfl hl)

/-- R28: the label `I5` or `I6` calls SEND_DEVICE_COMMAND with the command R81 pairs it with. -/
theorem Coherent.callSend {s : State} {l : Label} {c : Byte} (h : Coherent s) (hs : s.seq = l) (hl : l ∈ initLabels)
    (hc : (nextLabel l, c) ∈ [(Label.I6, (0xF6 : Byte)), (Label.I7, 0xF4)]) : Coherent (s.callSend c) := by
  have hnot : l ≠ .A1 ∧ l ∉ handlerLabels := (by decide : ∀ l ∈ initLabels, l ≠ .A1 ∧ l ∉ handlerLabels) l hl
  have hm : s.mode ≠ .service := (h.placed_seq hs hnot.1).ne_service hnot.2
  subst hs
  exact .of_placed h.bounded (.of_sendLabels hm (.head _) hc)

/-- R113: the byte read at `S6` returns to INIT after the call, or stays at `S6`. -/
theorem Coherent.finishAck {s : State} (h : Coherent s) (hb : isQuiescent s.mode = false) (hs : s.seq = .S6) :
    Coherent (s.readData.goto (if isAck s.dataAnswer then s.retSend else .S6)) := by
  have hp := h.placed_seq hs (by decide)
  refine .of_placed h.bounded ?_
  cases isAck s.dataAnswer
  case false => exact hp
  case true => exact hp.returned hb (by decide)

/-- R104: a read that does not show the bit is counted, and the bound was not yet reached. -/
theorem Coherent.pollAgain {s : State} (h : Coherent s) (hb : isQuiescent s.mode = false) (hs : s.seq = .A1)
    (hp : s.pollN ≠ s.params.pollBound) : Coherent { s.readStatus with pollN := s.pollN + 1 } :=
  have hn : s.pollN + 1 ≤ s.params.pollBound := Nat.lt_of_le_of_ne (h.polls hb hs) hp
  .of_wait h.bounded hs hn (h.resumes hb hs) (h.placed_retAwait hs)

/-- R28: the label a busy block runs keeps the shape of a state. -/
theorem runLabel_coherent {s : State} (hs : Coherent s) (hb : isQuiescent s.mode = false) :
    ∃ t, runLabel s = .next t ∧ Coherent t := by
  cases h : s.seq
  case I0 => exact ⟨_, runLabel_I0 h, .of_placed (.zeroed hs.ports) (hs.placed_next h (by decide))⟩
  case I1a | I2a | I4a | I4c | S1 | S3 =>
    exact ⟨_, runLabel_awaitSend (by simp [h]), hs.callAwait h (by decide) rfl⟩
  case I2c | S5 | H1 => exact ⟨_, runLabel_awaitRecv (by simp [h]), hs.callAwait h (by decide) rfl⟩
  case I1b => exact ⟨_, runLabel_I1b h, .of_placed hs.bounded (hs.placed_next h (by decide))⟩
  case I2b => exact ⟨_, runLabel_I2b h, .of_placed hs.bounded (hs.placed_next h (by decide))⟩
  case I2d =>
    have hm := (hs.placed_seq h (by decide)).ne_service (by decide)
    exact ⟨_, runLabel_I2d h, .of_placed hs.bounded (.of_initLabels (l := .I3) hm (by decide) (.inl (by decide)))⟩
  case I3 =>
    have hm := (hs.placed_seq h (by decide)).ne_service (by decide)
    exact ⟨_, runLabel_I3 h, .of_placed hs.bounded
      (.of_initLabels (l := .I4a) hm (by decide) (.inr (withAuxInterrupt_bit_one s.cfg)))⟩
  case I4b => exact ⟨_, runLabel_I4b h, .of_placed hs.bounded (hs.placed_next h (by decide))⟩
  case I4d => exact ⟨_, runLabel_I4d h, .of_placed hs.bounded (hs.placed_next h (by decide))⟩
  case I5 => exact ⟨_, runLabel_I5 h, hs.callSend h (by decide) (by decide)⟩
  case I6 => exact ⟨_, runLabel_I6 h, hs.callSend h (by decide) (by decide)⟩
  case I7 => exact ⟨_, runLabel_I7 h, .of_placed hs.bounded (hs.placed_next h (by decide))⟩
  case I8 => exact ⟨_, runLabel_I8 h, .of_placed hs.bounded (.of_quiescent rfl)⟩
  case S2 => exact ⟨_, runLabel_S2 h, .of_placed hs.bounded (hs.placed_next h (by decide))⟩
  case S4 => exact ⟨_, runLabel_S4 h, .of_placed hs.bounded (hs.placed_next h (by decide))⟩
  case S6 => exact ⟨_, runLabel_S6_goto h, hs.finishAck hb h⟩
  case A1 =>
    by_cases hp : s.pollN = s.params.pollBound
    · exact ⟨_, runLabel_A1_exhausted h hp, .of_placed hs.bounded (hs.placed_retAwait h)⟩
    · cases hm : waitMet s.dir s.statusAnswer
      · exact ⟨_, runLabel_A1_again h hp hm, hs.pollAgain hb h hp⟩
      · exact ⟨_, runLabel_A1_met h hp hm, .of_placed hs.bounded (hs.placed_retAwait h)⟩
  case H2 =>
    have hm := (hs.placed_seq h (by decide)).ne_init (by decide)
    have hl : ∀ full : Bool, (if full then Label.H3 else .H7) ∈ handlerLabels := by decide
    exact ⟨_, runLabel_H2 h, .of_placed hs.bounded (.of_handlerLabels hm (hl _))⟩
  case H3 => exact ⟨_, runLabel_H3 h, .of_placed hs.bounded (hs.placed_next h (by decide))⟩
  case H4 => exact ⟨_, runLabel_H4 h, .of_placed (hs.bounded.write _ _) (hs.placed_next h (by decide))⟩
  case H5 => exact ⟨_, runLabel_H5 h, .of_placed (hs.bounded.countIn _) (hs.placed_next h (by decide))⟩
  case H6 =>
    cases hc : packetComplete s.bytesReceived
    · exact ⟨_, runLabel_H6_partial h hc, .of_placed hs.bounded (hs.placed_next h (by decide))⟩
    · exact ⟨_, runLabel_H6_complete h hc, .of_placed hs.bounded (hs.placed_next h (by decide))⟩
  case H7 => exact ⟨_, runLabel_H7 h, .of_placed hs.bounded (.of_quiescent rfl)⟩

/-- R198, R202, R220: RESET and an acceptance leave the block at a label of its mode, or in no operation. -/
theorem blockTurn_coherent {s t : State} (hs : Coherent s) (h : blockTurn s = .next t) : Coherent t := by
  obtain ⟨-, rfl⟩ | ⟨-, ⟨hb, hl⟩ | ⟨-, -, rfl | rfl⟩ | ⟨-, -, rfl | rfl⟩ | ⟨-, -, -, rfl⟩⟩ := blockTurn_cases h
  · exact .of_placed ⟨s.loseRegisters_wf, hs.ports, fun _ hw => countIn_lt _ hw⟩ (.of_quiescent rfl)
  · obtain ⟨u, hu, hc⟩ := runLabel_coherent hs hb
    cases hl.symm.trans hu
    exact hc
  · exact .of_placed hs.bounded .initAccepted
  · exact .of_placed hs.bounded .initAccepted
  · exact .of_placed hs.bounded .irqAccepted
  · exact .of_placed hs.bounded .irqAccepted
  · exact hs

/-- Settles O51, from the block's turn and the moves of the other agents, which change lines alone. -/
theorem coherenceKept : Obligations.CoherenceKept := by
  intro s t hs h
  obtain ⟨-, hb⟩ | ⟨rest, -, hb⟩ | ⟨m, rest, -, -, r, i, q, rfl, -⟩ := step_cases h
  · exact blockTurn_coherent hs hb
  · exact blockTurn_coherent (hs.of_lines rest s.resetReq s.initReq s.irqReq) hb
  · exact hs.of_lines rest r i q

/-- Settles O52: the machine is in `OFF` with nothing in its buffer. -/
theorem resetStateIsCoherent : Obligations.ResetStateIsCoherent :=
  .of_placed (.zeroed rfl) (.of_quiescent rfl)

end Sys2Proof.Machine
end

section
/-! Driver State and its writers (R20, R25), the state after reset (R36), the entries of the operations of several steps (R104,
R110) and the operations of each label (R28). -/

namespace Sys2Proof.Machine

/-! ## The writers of Driver State -/

/-- R28: every label but `I0`, `H4`, `H5` and `H6` leaves Driver State alone. -/
theorem runLabel_driverState {s : State} (hs : s.seq ∉ [Label.I0, .H4, .H5, .H6]) :
    ∃ t, runLabel s = .next t ∧ t.driverState = s.driverState := by
  cases h : s.seq
  case I0 | H4 | H5 | H6 => exact absurd (by simp [h]) hs
  case I1a | I2a | I4a | I4c | S1 | S3 => exact ⟨_, runLabel_awaitSend (by simp [h]), rfl⟩
  case I2c | S5 | H1 => exact ⟨_, runLabel_awaitRecv (by simp [h]), rfl⟩
  case I1b => exact ⟨_, runLabel_I1b h, rfl⟩
  case I2b => exact ⟨_, runLabel_I2b h, rfl⟩
  case I2d => exact ⟨_, runLabel_I2d h, rfl⟩
  case I3 => exact ⟨_, runLabel_I3 h, rfl⟩
  case I4b => exact ⟨_, runLabel_I4b h, rfl⟩
  case I4d => exact ⟨_, runLabel_I4d h, rfl⟩
  case I5 => exact ⟨_, runLabel_I5 h, rfl⟩
  case I6 => exact ⟨_, runLabel_I6 h, rfl⟩
  case I7 => exact ⟨_, runLabel_I7 h, rfl⟩
  case I8 => exact ⟨_, runLabel_I8 h, rfl⟩
  case S2 => exact ⟨_, runLabel_S2 h, rfl⟩
  case S4 => exact ⟨_, runLabel_S4 h, rfl⟩
  case S6 => exact ⟨_, runLabel_S6_goto h, rfl⟩
  case A1 =>
    by_cases hp : s.pollN = s.params.pollBound
    · exact ⟨_, runLabel_A1_exhausted h hp, rfl⟩
    · cases hm : waitMet s.dir s.statusAnswer
      · exact ⟨_, runLabel_A1_again h hp hm, rfl⟩
      · exact ⟨_, runLabel_A1_met h hp hm, rfl⟩
  case H2 => exact ⟨_, runLabel_H2 h, rfl⟩
  case H3 => exact ⟨_, runLabel_H3 h, rfl⟩
  case H7 => exact ⟨_, runLabel_H7 h, rfl⟩

/-- R198, R202, R220: of the block's moves, RESET and the four writing labels alone change Driver State. -/
theorem blockTurn_driverState {s t : State} (h : blockTurn s = .next t) (hne : t.driverState ≠ s.driverState) :
    s.resetReq = true ∨ (isQuiescent s.mode = false ∧ s.seq ∈ [Label.I0, .H4, .H5, .H6]) := by
  obtain ⟨hr, -⟩ | ⟨-, ⟨hb, hl⟩ | ⟨-, -, rfl | rfl⟩ | ⟨-, -, rfl | rfl⟩ | ⟨-, -, -, rfl⟩⟩ := blockTurn_cases h
  case inl => exact .inl hr
  case inr.inl =>
    refine .inr ⟨hb, by_contra fun hs => ?_⟩
    obtain ⟨u, hu, hsame⟩ := runLabel_driverState hs
    cases hl.symm.trans hu
    exact hne hsame
  all_goals exact absurd rfl hne

/-- Settles O53, from the block's turn: the moves of the other agents change lines alone. -/
theorem driverStateSingleWriter : Obligations.DriverStateSingleWriter := by
  intro s t h hne
  obtain ⟨-, hb⟩ | ⟨rest, -, hb⟩ | ⟨m, rest, -, -, r, i, q, rfl, -⟩ := step_cases h
  · exact blockTurn_driverState hb hne
  · exact blockTurn_driverState (s := { s with schedule := rest }) hb hne
  · exact absurd rfl hne

/-! ## Reset, the entries, and the operations of each label -/

/-- Settles O1: no request is outstanding, and an idle step in `OFF` answers its own state. -/
theorem resetStateIsOffAndIdle : Obligations.ResetStateIsOffAndIdle :=
  ⟨rfl, rfl, rfl, rfl⟩

/-- Settles O17: the entry is `State.callAwait`. -/
theorem awaitReadyEntry : Obligations.AwaitReadyEntry :=
  fun _ _ => rfl

/-- Settles O18: each of the three entries is `State.callSend`, the device commands' with their own byte. -/
theorem deviceCommandEntry : Obligations.DeviceCommandEntry :=
  fun _ => ⟨fun _ => rfl, rfl, rfl⟩

/-- R28: the label `H6` decodes, emits and adds where the packet is complete. -/
theorem labelOps_H6_complete {s : State} (h : s.bytesReceived % 3 = 0) :
    s.labelOps .H6 = [.decode, .emit, .accUpdate] :=
  if_pos (beq_iff_eq.2 h)

/-- R28: the label `H6` performs nothing inside a packet. -/
theorem labelOps_H6_partial {s : State} (h : s.bytesReceived % 3 ≠ 0) : s.labelOps .H6 = [] :=
  if_neg (mt beq_iff_eq.1 h)

/-- Settles O30: the step is `runLabel`, and each label's operations are read off `State.labelOps`. -/
theorem busyStepRunsItsLabel : Obligations.BusyStepRunsItsLabel := by
  intro s hb hu
  refine ⟨step_busy hb hu.alone hu.noReset, rfl, ?send, ?recv, rfl, rfl, rfl, rfl, rfl, rfl, rfl, rfl, rfl, rfl, rfl,
    rfl, rfl, rfl, labelOps_H6_complete, labelOps_H6_partial, ?none⟩
  case send | recv | none => simp [State.labelOps]

end Sys2Proof.Machine
end

section
/-! The memory of the block: which operations write the packet buffer (R50, R55, R156), which bytes reach the ports (R58, R71,
R72, R84), a read that no script answers (R56), and the moves a running sequence excludes (R63, R200). -/

namespace Sys2Proof.Machine

open Sys2Proof.Config

/-! ## Operations with a choice -/

/-- R130, R131: INIT is accepted or held. -/
theorem exec_init_cases {s t : State} (h : exec .init s = .next t) :
    t = { s with mode := .init, seq := .I0, initReq := false } ∨ t = { s with initReq := true } := by
  simp only [exec, execInit] at h
  split at h <;> cases h
  · exact .inl rfl
  · exact .inr rfl

/-- R151, R199: a notification is accepted or kept. -/
theorem exec_handleIrq_cases {s t : State} (h : exec .handleIrq s = .next t) :
    t = s.enterService ∨ t = { s with irqReq := true } := by
  simp only [exec, execHandleIrq] at h
  split at h <;> cases h
  · exact .inl rfl
  · exact .inr rfl

/-- R113: the acknowledgement is one data read, whatever byte it answers. -/
theorem exec_ack_goto (s : State) :
    exec .ack s = .next (s.readData.goto (if isAck s.dataAnswer then s.retSend else .S6)) := by
  simp only [exec, execAck]
  split <;> rfl

/-! ## The parameters and the packet buffer -/

/-- No operation changes a parameter (R10). -/
theorem exec_params {i : Instr} {s t : State} (h : exec i s = .next t) : t.params = s.params := by
  cases i
  case init => obtain rfl | rfl := exec_init_cases h <;> rfl
  case handleIrq => obtain rfl | rfl := exec_handleIrq_cases h <;> rfl
  case ack => cases (exec_ack_goto s).symm.trans h; rfl
  all_goals cases h; rfl

/-- R50, R55: the packet buffer is untouched but by RESET, ZERO_STATE and STORE_BYTE. -/
theorem exec_packetBuffer {i : Instr} {s t : State} (h : exec i s = .next t)
    (hi : i ∉ [Instr.reset, .zeroState, .storeByte]) : t.packetBuffer = s.packetBuffer := by
  cases i
  case reset | zeroState | storeByte => exact absurd (by decide) hi
  case init => obtain rfl | rfl := exec_init_cases h <;> rfl
  case handleIrq => obtain rfl | rfl := exec_handleIrq_cases h <;> rfl
  case ack => cases (exec_ack_goto s).symm.trans h; rfl
  all_goals cases h; rfl

/-- Settles O54: an unchanged buffer reads as before. -/
theorem onlyStoresTouchTheBuffer : Obligations.OnlyStoresTouchTheBuffer :=
  fun _ _ _ h => ⟨exec_params h, fun hi j => congrArg (Memory.read · j) (exec_packetBuffer h hi)⟩

/-! ## The bytes written -/

/-- R58, R71, R72: a controller command for `CTRL_PORT`, or for `DATA_PORT` a device command or a byte with bit 1 set. -/
def SpecifiedWrite (p : Params) (a : Nat) (v : Byte) : Prop :=
  (a = p.ctrlPort ∧ v ∈ controllerCommands) ∨ (a = p.dataPort ∧ (v ∈ deviceCommands ∨ v.getLsbD 1 = true))

/-- From `s` to `t` the trace grows by records whose writes are all specified. -/
def AddsSpecifiedWrites (s t : State) : Prop :=
  ∃ since, t.trace = s.trace ++ since ∧ ∀ a v, (a, v) ∈ writesOf since → SpecifiedWrite s.params a v

theorem AddsSpecifiedWrites.of_trace_eq {s t : State} (h : t.trace = s.trace) : AddsSpecifiedWrites s t :=
  ⟨[], by simp [h], by simp [writesOf]⟩

/-- A record that is no write. -/
theorem AddsSpecifiedWrites.of_record {s t : State} {o : Obs} (h : t.trace = s.trace ++ [o]) (ho : writesOf [o] = []) :
    AddsSpecifiedWrites s t :=
  ⟨[o], h, by simp [ho]⟩

theorem AddsSpecifiedWrites.portWrite {s : State} {p : Port} {v : Byte}
    (h : SpecifiedWrite s.params (s.portAddr p) v) : AddsSpecifiedWrites s (s.portWrite p v) := by
  refine ⟨[.write (s.portAddr p) v], rfl, fun a w hw => ?_⟩
  obtain ⟨rfl, rfl⟩ := Prod.mk.inj (List.mem_singleton.1 hw)
  exact h

theorem AddsSpecifiedWrites.trans {s t u : State} (hst : AddsSpecifiedWrites s t) (hp : t.params = s.params)
    (htu : AddsSpecifiedWrites t u) : AddsSpecifiedWrites s u := by
  obtain ⟨first, htrace, hfirst⟩ := hst
  obtain ⟨later, hutrace, hlater⟩ := htu
  refine ⟨first ++ later, by rw [hutrace, htrace, List.append_assoc], fun a v hw => ?_⟩
  rw [writesOf_append, List.mem_append] at hw
  exact hw.elim (hfirst a v) fun hw => hp ▸ hlater a v hw

/-- R101, R102: with an operand the block's own sequences can give, an operation writes specified bytes alone. -/
theorem exec_addsSpecifiedWrites {i : Instr} {s t : State} (hi : i.wf = true) (h : exec i s = .next t) :
    AddsSpecifiedWrites s t := by
  cases i
  case ctrlWrite v => cases h; exact .portWrite (.inl ⟨rfl, of_decide_eq_true hi⟩)
  case auxEnable | cfgRead | cfgWrite | auxRoute => cases h; exact .portWrite (.inl ⟨rfl, by decide⟩)
  case dataWrite v =>
    cases h
    exact .portWrite (.inr ⟨rfl, ((Bool.or_eq_true _ _).mp hi).symm.imp_left of_decide_eq_true⟩)
  case statusRead | dataRead | enableIrqLine | emit => cases h; exact .of_record rfl rfl
  case ack => cases (exec_ack_goto s).symm.trans h; exact .of_record rfl rfl
  case init => obtain rfl | rfl := exec_init_cases h <;> exact .of_trace_eq rfl
  case handleIrq => obtain rfl | rfl := exec_handleIrq_cases h <;> exact .of_trace_eq rfl
  all_goals cases h; exact .of_trace_eq rfl

/-- What `andThen` answers comes from what its first part answered. -/
theorem andThen_eq_next {o : Host.Outcome State Fault Refusal} {f : State → Host.Outcome State Fault Refusal}
    {t : State} (h : andThen o f = .next t) : ∃ u, o = .next u ∧ f u = .next t := by
  cases o
  case next u => exact ⟨u, rfl, h⟩
  case fault | refused => cases h

theorem execAll_addsSpecifiedWrites {is : List Instr} {s t : State} (hi : is.all Instr.wf = true)
    (h : execAll is s = .next t) : AddsSpecifiedWrites s t := by
  induction is generalizing s with
  | nil => cases h; exact .of_trace_eq rfl
  | cons i is ih =>
    obtain ⟨hhead, htail⟩ := (Bool.and_eq_true _ _).mp hi
    obtain ⟨u, hu, hrest⟩ := andThen_eq_next h
    exact (exec_addsSpecifiedWrites hhead hu).trans (exec_params hu) (ih htail hrest)

/-- R28: a label's own action is no access; its operations make them all. -/
@[simp] theorem State.finishLabel_trace (s : State) (l : Label) : (s.finishLabel l).trace = s.trace := by
  cases l
  case A1 =>
    simp only [State.finishLabel, State.finishPoll]
    split
    · rfl
    · split <;> rfl
  all_goals rfl

/-- A busy block at a label that is not the handler's runs INIT (R27). -/
theorem Placed.eq_init {m : Mode} {l r : Label} {c g : Byte} (h : Placed m l r c g) (hb : isQuiescent m = false)
    (hl : l ∉ handlerLabels) : m = .init := by
  cases m
  case init => rfl
  case service => exact absurd rfl (h.ne_service hl)
  case off | armed => cases hb

/-- R81: what SEND_DEVICE_COMMAND sends is a device command. -/
theorem Placed.cmd_mem {m : Mode} {l r : Label} {c g : Byte} (h : Placed m l r c g) (hm : m = .init)
    (hl : l ∈ sendLabels) : c ∈ deviceCommands :=
  List.mem_map_of_mem (f := Prod.snd) (h.inSend hm hl)

/-- R58, R81: the configuration byte a coherent block writes has bit 1 set, the command it sends is a device command, and no
other label has an operand of its own. -/
theorem Coherent.labelOps_wf {s : State} (hs : Coherent s) (hb : isQuiescent s.mode = false) :
    (s.labelOps s.seq).all Instr.wf = true := by
  cases h : s.seq
  case I4d =>
    have hp := hs.placed_seq h (by decide)
    have hc : s.cfg.getLsbD 1 = true := hp.configured (hp.eq_init hb (by decide)) (by decide)
    simp [State.labelOps, Instr.wf, hc]
  case S4 =>
    have hp := hs.placed_seq h (by decide)
    have hc : s.cmd ∈ deviceCommands := hp.cmd_mem (hp.eq_init hb (by decide)) (by decide)
    simp [State.labelOps, Instr.wf, hc]
  case A1 | H6 =>
    simp only [State.labelOps]
    split <;> rfl
  all_goals rfl

theorem runLabel_addsSpecifiedWrites {s t : State} (hs : Coherent s) (hb : isQuiescent s.mode = false)
    (h : runLabel s = .next t) : AddsSpecifiedWrites s t := by
  obtain ⟨u, hu, ht⟩ := andThen_eq_next h
  obtain ⟨since, htrace, hw⟩ := execAll_addsSpecifiedWrites (hs.labelOps_wf hb) hu
  cases ht
  exact ⟨since, by simpa using htrace, hw⟩

/-- R198, R202, R220: RESET, an acceptance and an idle turn write nothing, so the block's writes are its label's. -/
theorem blockTurn_addsSpecifiedWrites {s t : State} (hs : Coherent s) (h : blockTurn s = .next t) :
    AddsSpecifiedWrites s t := by
  obtain ⟨-, rfl⟩ | ⟨-, ⟨hb, hl⟩ | ⟨-, -, rfl | rfl⟩ | ⟨-, -, rfl | rfl⟩ | ⟨-, -, -, rfl⟩⟩ := blockTurn_cases h
  case inr.inl => exact runLabel_addsSpecifiedWrites hs hb hl
  all_goals exact .of_trace_eq rfl

theorem step_addsSpecifiedWrites {s t : State} (hs : Coherent s) (h : step s = .next t) : AddsSpecifiedWrites s t := by
  obtain ⟨-, hb⟩ | ⟨rest, -, hb⟩ | ⟨m, rest, -, -, r, i, q, rfl, -⟩ := step_cases h
  · exact blockTurn_addsSpecifiedWrites hs hb
  · exact blockTurn_addsSpecifiedWrites (s := { s with schedule := rest })
      (hs.of_lines rest s.resetReq s.initReq s.irqReq) hb
  · exact .of_trace_eq rfl

/-- Settles O56: the records a step adds are determined by the two traces. -/
theorem onlySpecifiedBytesWritten : Obligations.OnlySpecifiedBytesWritten := by
  intro s t since a v hs h htrace hw
  obtain ⟨since', htrace', hspec⟩ := step_addsSpecifiedWrites hs h
  obtain rfl : since = since' := List.append_cancel_left (htrace.symm.trans htrace')
  exact hspec a v hw

/-! ## The excluded moves, and free reads -/

/-- R243: the agent the schedule names moves, and its move is used up. -/
theorem step_of_schedule {s : State} {m : Move} {rest : List Move} (h : s.schedule = m :: rest) :
    step s = outsideMove m { s with schedule := rest } := by
  simp only [step, turn, h]

/-- Settles O12: both moves ask whether the block is quiescent. -/
theorem premiseBreakersAreRefused : Obligations.PremiseBreakersAreRefused := by
  intro s rest
  constructor <;> intro hm <;> rw [step_of_schedule hm]
  case left => exact ⟨fun hb => if_neg (Bool.eq_false_iff.1 hb), fun hq => if_pos hq⟩
  case right => exact ⟨fun hb => if_neg (Bool.eq_false_iff.1 hb), fun hq => if_pos hq⟩

/-- R56, R100: a status read that no script answers. -/
theorem State.readStatus_unscripted {s : State} (h : s.statusAnswers = []) :
    s.readStatus = { s with
      statusReg := freeByte s.draws
      draws := s.draws + 1
      trace := s.trace ++ [.read s.params.ctrlPort (freeByte s.draws)] } := by
  simp [State.readStatus, State.statusAnswer, State.portAddr, drawsAfter, h]

/-- R56, R103: a data read that no script answers. -/
theorem State.readData_unscripted {s : State} (h : s.dataAnswers = []) :
    s.readData = { s with
      dataReg := freeByte s.draws
      draws := s.draws + 1
      trace := s.trace ++ [.read s.params.dataPort (freeByte s.draws)] } := by
  simp [State.readData, State.dataAnswer, State.portAddr, drawsAfter, h]

/-- Settles O14: the two operations are the two port reads. -/
theorem unscriptedReadsAreFree : Obligations.UnscriptedReadsAreFree :=
  fun _ => ⟨fun h => congrArg Host.Outcome.next (State.readStatus_unscripted h),
    fun h => congrArg Host.Outcome.next (State.readData_unscripted h)⟩

end Sys2Proof.Machine
end

section
/-! The encoding (R70 to R73, R82, R83): the rows of the operation table against `encode` and `decode`. -/

namespace Sys2Proof

/-! ## Rows -/

/-- A row without don't-care bits matches its own pattern alone. -/
theorem Row.hits_iff {r : Row} (hm : r.mask = 0xFF) (b : Byte) : r.hits b = true ↔ b = r.pattern := by
  have hand : b &&& 0xFF = b := BitVec.and_allOnes
  rw [Row.hits, hm, hand, beq_iff_eq]

/-- Two rows that match the same byte are not apart. -/
theorem Row.not_apart_of_hits {r q : Row} {b : Byte} (hr : r.hits b = true) (hq : q.hits b = true) :
    r.apart q = false := by
  have hr : b &&& r.mask = r.pattern := beq_iff_eq.1 hr
  have hq : b &&& q.mask = q.pattern := beq_iff_eq.1 hq
  have hsame : r.pattern &&& q.mask = q.pattern &&& r.mask := by
    rw [← hr, ← hq, BitVec.and_assoc, BitVec.and_assoc, BitVec.and_comm r.mask]
  simp [Row.apart, hsame]

/-- What is found is a row of the list, and matches. -/
theorem mem_of_findRow {b : Byte} {rows : List Row} {r : Row} (h : findRow b rows = some r) :
    r ∈ rows ∧ r.hits b = true := by
  induction rows with
  | nil => cases h
  | cons q rows ih =>
    simp only [findRow] at h
    split at h
    · rename_i hq
      cases h
      exact ⟨.head _, hq⟩
    · exact (ih h).imp_left (.tail _)

/-- Among rows that are pairwise apart, the row that matches is the one found. -/
theorem findRow_of_mem {b : Byte} {rows : List Row} {r : Row} (hrows : rows.Pairwise fun r q => r.apart q = true)
    (hr : r ∈ rows) (hb : r.hits b = true) : findRow b rows = some r := by
  induction rows with
  | nil => cases hr
  | cons q rows ih =>
    obtain ⟨hq, hrest⟩ := List.pairwise_cons.1 hrows
    rcases List.mem_cons.1 hr with rfl | hr
    · exact if_pos hb
    · have hmiss : ¬ q.hits b = true := fun hqb =>
        absurd (hq r hr) (Bool.eq_false_iff.1 (Row.not_apart_of_hits hqb hb))
      exact (if_neg hmiss).trans (ih hrest hr)

/-! ## The operation table -/

/-- R71 to R73, R82: no byte matches two rows of the table. -/
theorem opcodeRows_apart : opcodeRows.Pairwise fun r q => r.apart q = true := by decide

/-- R71 to R73, R82: no row has don't-care bits. -/
theorem opcodeRows_mask : ∀ r ∈ opcodeRows, r.mask = 0xFF := by decide

/-- R71 to R73, R82: a row's pattern is the code of its operation. -/
theorem opcodeRows_encode : ∀ r ∈ opcodeRows, encode r.instr = some [r.pattern] := by decide

/-- No row's operation has an operand to be ill-formed. -/
theorem opcodeRows_wf : ∀ r ∈ opcodeRows, r.instr.wf = true := by decide

/-- Every encoded operation has a row. -/
theorem exists_row_of_encode {i : Instr} {bs : List Byte} (h : encode i = some bs) :
    ∃ r ∈ opcodeRows, r.instr = i ∧ bs = [r.pattern] := by
  cases i
  case reset | init | handleIrq | auxEnable | cfgRead | cfgWrite | auxRoute | devSetDefaults | devEnableStream | ack =>
    cases h
    decide
  all_goals cases h

/-- The row found for a byte is the row that has it as its pattern. -/
theorem findRow_opcodeRows_iff {b : Byte} {r : Row} :
    findRow b opcodeRows = some r ↔ r ∈ opcodeRows ∧ b = r.pattern := by
  constructor
  · intro h
    obtain ⟨hr, hb⟩ := mem_of_findRow h
    exact ⟨hr, (Row.hits_iff (opcodeRows_mask r hr) b).1 hb⟩
  · rintro ⟨hr, hb⟩
    exact findRow_of_mem opcodeRows_apart hr ((Row.hits_iff (opcodeRows_mask r hr) b).2 hb)

/-! ## Decoder and encoder -/

/-- The decoder takes the first byte's row. -/
theorem decode_eq_ok_iff_findRow {bs rest : List Byte} {i : Instr} :
    decode bs = .ok (i, rest) ↔ ∃ b r, bs = b :: rest ∧ findRow b opcodeRows = some r ∧ r.instr = i := by
  cases bs with
  | nil => simp [decode]
  | cons b tail =>
    cases hf : findRow b opcodeRows <;> simp [decode, hf, and_comm]

/-- R70, R82: bytes decode to an operation exactly where they are its code and the rest. -/
theorem decode_eq_ok_iff {bs rest : List Byte} {i : Instr} :
    decode bs = .ok (i, rest) ↔ ∃ code, encode i = some code ∧ bs = code ++ rest := by
  rw [decode_eq_ok_iff_findRow]
  constructor
  · rintro ⟨b, r, rfl, hf, rfl⟩
    obtain ⟨hr, rfl⟩ := findRow_opcodeRows_iff.1 hf
    exact ⟨[r.pattern], opcodeRows_encode r hr, rfl⟩
  · rintro ⟨code, he, rfl⟩
    obtain ⟨r, hr, hi, rfl⟩ := exists_row_of_encode he
    exact ⟨r.pattern, r, rfl, findRow_opcodeRows_iff.2 ⟨hr, rfl⟩, hi⟩

/-- An encoded operation is well-formed. -/
theorem wf_of_encode {i : Instr} {code : List Byte} (h : encode i = some code) : i.wf = true := by
  obtain ⟨r, hr, rfl, -⟩ := exists_row_of_encode h
  exact opcodeRows_wf r hr

/-- R83: the operations without an encoding. -/
theorem encode_eq_none_iff (i : Instr) : encode i = none ↔
    i ∈ [Instr.statusRead, .dataRead, .zeroState, .enableIrqLine, .storeByte, .decode, .emit, .accUpdate] ∨
    (∃ v, i = .ctrlWrite v) ∨ (∃ v, i = .dataWrite v) ∨ (∃ d, i = .awaitReady d) ∨ (∃ c, i = .sendDeviceCommand c) := by
  cases i
  case reset | init | handleIrq | auxEnable | cfgRead | cfgWrite | auxRoute | devSetDefaults | devEnableStream | ack =>
    exact iff_of_false (by simp [encode]) (by simp)
  case ctrlWrite v | dataWrite v | awaitReady d | sendDeviceCommand c => exact iff_of_true rfl (.inr (by simp))
  all_goals exact iff_of_true rfl (.inl (by decide))

/-- A word of the table decodes to an encoded operation alone. -/
theorem encode_of_decodeTableWord {nbits w : Nat} {i : Instr} (h : decodeTableWord nbits w = some i) :
    ∃ code, encode i = some code := by
  unfold decodeTableWord at h
  split at h
  · rename_i hd
    cases h
    obtain ⟨code, he, -⟩ := decode_eq_ok_iff.1 hd
    exact ⟨code, he⟩
  · cases h

/-- Settles O57, from the one equivalence of decoder and encoder. -/
theorem encodeDecodeAgree : Obligations.EncodeDecodeAgree := by
  refine ⟨fun i bs rest he => decode_eq_ok_iff.2 ⟨bs, he, rfl⟩, fun bs rest i hd => ?_, encode_eq_none_iff⟩
  obtain ⟨code, he, hbs⟩ := decode_eq_ok_iff.1 hd
  exact ⟨code, he, hbs, wf_of_encode he⟩

/-- Settles O58, by running the decoder on each word. -/
theorem tableWordsDecode : Obligations.TableWordsDecode := by
  refine ⟨?requests, ?controllerCommands, ?deviceCommands, ?response, ?noResponse, ?twoRequests⟩ <;> decide

end Sys2Proof
end

section
/-! The step that runs a placed operation (R82, R88, R201), and the carrier of a delta (R79, R80). -/

namespace Sys2Proof.Machine

/-! ## A block's move, by what it is asked -/

/-- R201: with no RESET outstanding, a busy block's move is its label's. -/
theorem blockTurn_busy {s : State} (hb : isQuiescent s.mode = false) (hr : s.resetReq = false) :
    blockTurn s = runLabel s := by
  cases hm : s.mode
  case init | service => simp [blockTurn, hr, hm]
  case off | armed => simp [isQuiescent, hm] at hb

/-- R202: a quiescent block that only INIT is asked of runs INIT. -/
theorem blockTurn_initReq {s : State} (hq : isQuiescent s.mode = true) (hr : s.resetReq = false)
    (hi : s.initReq = true) (hn : s.irqReq = false) : blockTurn s = exec .init s := by
  cases hm : s.mode
  case off => simp [blockTurn, hr, hm, acceptOff, hi]
  case armed => simp [blockTurn, hr, hm, acceptArmed, hi, hn]
  case init | service => simp [isQuiescent, hm] at hq

/-- A label that one operation makes up runs that operation, then its own action. -/
theorem runLabel_of_labelOps {s : State} {i : Instr} (h : s.labelOps s.seq = [i]) :
    runLabel s = andThen (exec i s) fun t => .next (t.finishLabel s.seq) := by
  simp only [runLabel, h, execAll, andThen_pure]

/-! ## Placed operations -/

/-- R28: an operation stands alone at its label. -/
theorem labelOps_of_labelOf {i : Instr} {l : Label} (h : labelOf i = some l) (s : State) : s.labelOps l = [i] := by
  cases i
  case auxEnable | cfgRead | cfgWrite | auxRoute | devSetDefaults | devEnableStream | ack => cases h; rfl
  all_goals cases h

/-- An operation that stands at a label is placed there, in INIT, with the block to move. -/
theorem place_of_labelOf {i : Instr} {l : Label} (h : labelOf i = some l) (s : State) :
    (s.place i).schedule = .block :: s.schedule ∧ (s.place i).mode = .init ∧ (s.place i).seq = l ∧
      (s.place i).resetReq = false := by
  cases i
  case auxEnable | cfgRead | cfgWrite | auxRoute | devSetDefaults | devEnableStream | ack =>
    cases h
    exact ⟨rfl, rfl, rfl, rfl⟩
  all_goals cases h

/-- R88, R201: an operation placed at its label runs there, and the label's own action follows. -/
theorem step_place_of_labelOf {i : Instr} {l : Label} (h : labelOf i = some l) (s : State) :
    step (s.place i) =
      andThen (exec i { s.place i with schedule := s.schedule }) fun t => .next (t.finishLabel l) := by
  obtain ⟨hsched, hmode, rfl, hreset⟩ := place_of_labelOf h s
  calc step (s.place i)
    _ = blockTurn { s.place i with schedule := s.schedule } := step_of_schedule hsched
    _ = runLabel { s.place i with schedule := s.schedule } := blockTurn_busy (by simp [hmode, isQuiescent]) hreset
    _ = _ := runLabel_of_labelOps (labelOps_of_labelOf h _)

/-- INIT is placed in a quiescent mode. -/
theorem place_init_quiescent (s : State) : isQuiescent (s.place .init).mode = true := by
  simp only [State.place]
  split
  · assumption
  · rfl

/-- R82, R198: an encoded operation of no label is a request, and the step that answers it runs it. -/
theorem step_place_of_request {i : Instr} {code : List Byte} (he : encode i = some code) (h : labelOf i = none)
    (s : State) : step (s.place i) = exec i { s.place i with schedule := s.schedule } := by
  cases i
  case reset | handleIrq => rfl
  case init =>
    have hsched : (s.place .init).schedule = .block :: s.schedule := rfl
    rw [step_of_schedule hsched]
    exact blockTurn_initReq (place_init_quiescent s) rfl rfl rfl
  case auxEnable | cfgRead | cfgWrite | auxRoute | devSetDefaults | devEnableStream | ack => cases h
  all_goals cases he

/-- A word that decodes to an operation places it. -/
theorem withFetchWord_of_decode {nbits w : Nat} {i : Instr} (h : decodeTableWord nbits w = some i) (s : State) :
    s.withFetchWord nbits w = s.place i := by
  simp only [State.withFetchWord, h]

/-- Settles O59, from the step of a request and the step at a label. -/
theorem stepRunsDecodedOperation : Obligations.StepRunsDecodedOperation := by
  intro s nbits w i h
  obtain ⟨code, he⟩ := encode_of_decodeTableWord h
  rw [withFetchWord_of_decode h]
  cases hl : labelOf i with
  | none => exact step_place_of_request he hl s
  | some l => exact step_place_of_labelOf hl s

/-! ## The delta and its carrier -/

/-- R79: a delta lies in -255 to 255. -/
theorem delta_bounds (negative : Bool) (m : Byte) : -255 ≤ delta negative m ∧ delta negative m ≤ 255 := by
  have hm : m.toNat < 2 ^ 8 := m.isLt
  unfold delta
  split <;> omega

/-- R80: the carrier is the delta in 9-bit two's complement, the negative zero included. -/
theorem deltaCarrier_eq_ofInt (negative : Bool) (m : Byte) :
    deltaCarrier negative m = BitVec.ofInt 9 (delta negative m) := by
  cases negative
  case false => exact (BitVec.ofInt_natCast 9 m.toNat).symm
  case true =>
    by_cases h0 : m = 0
    · subst h0; rfl
    · have hm : m.toNat < 2 ^ 8 := m.isLt
      have hcarrier : deltaCarrier true m = BitVec.ofNat 9 (512 - m.toNat) := if_pos (by simpa using h0)
      have hdelta : delta true m = -(m.toNat : Int) := rfl
      rw [hcarrier, hdelta]
      apply BitVec.eq_of_toNat_eq
      rw [BitVec.toNat_ofNat, BitVec.toNat_ofInt]
      omega

/-- Settles O48: nine bits hold every integer in -256 to 255. -/
theorem deltaFitsNineBits : Obligations.DeltaFitsNineBits := by
  intro negative m
  obtain ⟨hlo, hhi⟩ := delta_bounds negative m
  refine ⟨hlo, hhi, ?_⟩
  rw [deltaCarrier_eq_ofInt, BitVec.toInt_ofInt]
  exact Int.bmod_eq_of_le (by omega) (by omega)

end Sys2Proof.Machine
end

section
/-! The transport (R100 to R113): a scripted read, the step of a wait and of the acknowledgement, the runs of both loops, and
SEND_DEVICE_COMMAND from its call to its return. -/

namespace Sys2Proof.Machine

/-! ## Port reads and writes -/

/-- R100: a status read takes the first scripted answer. -/
theorem State.readStatus_scripted {s : State} {b : Byte} {rest : List Byte} (h : s.statusAnswers = b :: rest) :
    s.readStatus = { s with
      statusReg := b, statusAnswers := rest, trace := s.trace ++ [.read s.params.ctrlPort b] } := by
  simp [State.readStatus, State.statusAnswer, State.portAddr, drawsAfter, h]

/-- R103: a data read takes the first scripted answer. -/
theorem State.readData_scripted {s : State} {b : Byte} {rest : List Byte} (h : s.dataAnswers = b :: rest) :
    s.readData = { s with
      dataReg := b, dataAnswers := rest, trace := s.trace ++ [.read s.params.dataPort b] } := by
  simp [State.readData, State.dataAnswer, State.portAddr, drawsAfter, h]

/-- R56: the answer to a status read is the first scripted one. -/
theorem State.statusAnswer_scripted {s : State} {b : Byte} {rest : List Byte} (h : s.statusAnswers = b :: rest) :
    s.statusAnswer = b := by
  simp [State.statusAnswer, h]

/-- R56: the answer to a data read is the first scripted one. -/
theorem State.dataAnswer_scripted {s : State} {b : Byte} {rest : List Byte} (h : s.dataAnswers = b :: rest) :
    s.dataAnswer = b := by
  simp [State.dataAnswer, h]

/-- Settles O13: the two operations are the two port reads. -/
theorem portReadResult : Obligations.PortReadResult :=
  fun _ _ _ => ⟨fun h => congrArg Host.Outcome.next (State.readStatus_scripted h),
    fun h => congrArg Host.Outcome.next (State.readData_scripted h)⟩

/-- Settles O15: both operations are `State.portWrite`, at their own port. -/
theorem portWriteResult : Obligations.PortWriteResult :=
  fun _ _ => ⟨rfl, rfl⟩

/-- Settles O16: each command is `State.portWrite` of its byte at `CTRL_PORT`. -/
theorem controllerCommandsWriteTheirByte : Obligations.ControllerCommandsWriteTheirByte :=
  fun _ => ⟨rfl, rfl, rfl, rfl⟩

/-! ## The step of an undisturbed busy block -/

/-- The block is busy and undisturbed, and its next step is that of the label `l`. -/
structure BusyAt (l : Label) (s : State) : Prop where
  busy : isQuiescent s.mode = false
  undisturbed : Undisturbed s
  seq_eq : s.seq = l

/-- R201: the step is the label's. -/
theorem BusyAt.step_eq {l : Label} {s : State} (h : BusyAt l s) : step s = runLabel s :=
  step_busy h.busy h.undisturbed.alone h.undisturbed.noReset

/-- A change of other registers than `mode`, the schedule and RESET's line leaves the block busy, at its new label. -/
theorem BusyAt.moved {l l' : Label} {s t : State} (h : BusyAt l s) (hseq : t.seq = l') (hmode : t.mode = s.mode)
    (hschedule : t.schedule = s.schedule) (hreset : t.resetReq = s.resetReq) : BusyAt l' t where
  busy := hmode ▸ h.busy
  undisturbed := ⟨hschedule.trans h.undisturbed.alone, hreset.trans h.undisturbed.noReset⟩
  seq_eq := hseq

/-! ## The wait: its step -/

/-- R104: the bit that ends a wait, by direction. -/
theorem waitMet_iff {d : Dir} {b : Byte} :
    waitMet d b = true ↔ (d = .send ∧ b.getLsbD 1 = false) ∨ (d = .recv ∧ b.getLsbD 0 = true) := by
  cases d <;> simp [waitMet, inputFull, outputFull]

section
variable {s : State} (h : BusyAt .A1 s)
include h

/-- R104: with the bound reached, one report and the return. -/
theorem step_A1_exhausted (hp : s.pollN = s.params.pollBound) :
    step s = .next ((s.diag (.pollTimeout s.dir)).goto s.retAwait) :=
  h.step_eq.trans (runLabel_A1_exhausted h.seq_eq hp)

/-- R104: a status read that shows the awaited bit is the last. -/
theorem step_A1_met (hp : s.pollN ≠ s.params.pollBound) (hm : waitMet s.dir s.statusAnswer = true) :
    step s = .next (s.readStatus.goto s.retAwait) :=
  h.step_eq.trans (runLabel_A1_met h.seq_eq hp hm)

/-- R104: a status read that does not show the awaited bit is counted. -/
theorem step_A1_again (hp : s.pollN ≠ s.params.pollBound) (hm : waitMet s.dir s.statusAnswer = false) :
    step s = .next { s.readStatus with pollN := s.pollN + 1 } :=
  h.step_eq.trans (runLabel_A1_again h.seq_eq hp hm)

end

/-- Settles O19: the three steps of `A1`, the read's answer a scripted one. -/
theorem waitStep : Obligations.WaitStep := by
  intro s hb hu hs
  have h : BusyAt .A1 s := ⟨hb, hu, hs⟩
  refine ⟨step_A1_exhausted h, fun b rest hp ha => ?_⟩
  intro met
  have hanswer := State.statusAnswer_scripted ha
  by_cases hmet : met
  · rw [step_A1_met h hp (hanswer ▸ waitMet_iff.2 hmet), State.readStatus_scripted ha]
    simp only [if_pos hmet, State.goto]
  · rw [step_A1_again h hp (hanswer ▸ Bool.eq_false_iff.2 (mt waitMet_iff.1 hmet)), State.readStatus_scripted ha]
    simp only [if_neg hmet, hs]

/-! ## The wait: its run -/

/-- The state after the unmet status reads `polls` of a wait, with `rest` still to answer. -/
def State.polled (s : State) (polls rest : List Byte) : State :=
  { s with
    pollN := s.pollN + polls.length
    statusReg := polls.getLastD s.statusReg
    statusAnswers := rest
    trace := s.trace ++ polls.map (Obs.read s.params.ctrlPort) }

/-- More unmet reads after `first`. -/
theorem State.polled_polled (s : State) (first polls rest : List Byte) :
    (s.polled first (polls ++ rest)).polled polls rest = s.polled (first ++ polls) rest := by
  simp [State.polled, Nat.add_assoc]

/-- R104: an unmet answer within the bound is one read. -/
theorem step_polled {s : State} {a : Byte} {rest : List Byte} (h : BusyAt .A1 s) (ha : s.statusAnswers = a :: rest)
    (hp : s.pollN < s.params.pollBound) (hunmet : waitMet s.dir a = false) : step s = .next (s.polled [a] rest) := by
  rw [step_A1_again h hp.ne (State.statusAnswer_scripted ha ▸ hunmet), State.readStatus_scripted ha]
  rfl

/-- R104: each unmet answer within the bound is one read, and the wait goes on. -/
theorem runSteps_polled {s : State} {polls rest : List Byte} (h : BusyAt .A1 s) (ha : s.statusAnswers = polls ++ rest)
    (hunmet : ∀ a ∈ polls, waitMet s.dir a = false) (hp : s.pollN + polls.length ≤ s.params.pollBound) :
    runSteps polls.length s = .next (s.polled polls rest) := by
  induction polls generalizing s with
  | nil =>
    obtain rfl : s.statusAnswers = rest := ha
    simp [runSteps, State.polled]
  | cons a polls ih =>
    obtain ⟨hunmet_a, hunmet⟩ := List.forall_mem_cons.1 hunmet
    rw [List.length_cons] at hp
    have hnext : BusyAt .A1 (s.polled [a] (polls ++ rest)) := h.moved h.seq_eq rfl rfl rfl
    have hp' : s.pollN + 1 + polls.length ≤ s.params.pollBound := by omega
    calc runSteps (polls.length + 1) s
      _ = runSteps polls.length (s.polled [a] (polls ++ rest)) :=
        runSteps_succ (step_polled h ha (by omega) hunmet_a) polls.length
      _ = .next ((s.polled [a] (polls ++ rest)).polled polls rest) := ih hnext rfl hunmet hp'
      _ = .next (s.polled (a :: polls) rest) := by rw [State.polled_polled, List.singleton_append]

/-- Settles O20: the unmet reads, and then the step that reads the met answer. -/
theorem waitEndsAtFirstMetRead : Obligations.WaitEndsAtFirstMetRead := by
  intro s busy b rest hb hu hs ha hunmet hmet hp
  have h : BusyAt .A1 s := ⟨hb, hu, hs⟩
  have hpolled : BusyAt .A1 (s.polled busy (b :: rest)) := h.moved hs rfl rfl rfl
  rw [runSteps_trans (runSteps_polled h ha hunmet hp.le), runSteps_succ (step_A1_met hpolled hp.ne hmet),
    State.readStatus_scripted rfl]
  simp [runSteps, State.polled, State.goto]

/-- Settles O21: the unmet reads, and then the step that finds the bound reached. -/
theorem waitDegradesAfterBound : Obligations.WaitDegradesAfterBound := by
  intro s busy rest hb hu hs hzero ha hlen hunmet
  have h : BusyAt .A1 s := ⟨hb, hu, hs⟩
  have hbound : s.pollN + busy.length = s.params.pollBound := by omega
  have hpolled : BusyAt .A1 (s.polled busy rest) := h.moved hs rfl rfl rfl
  refine ⟨((s.polled busy rest).diag (.pollTimeout s.dir)).goto s.retAwait, ?run, rfl, rfl, rfl, rfl, rfl, rfl, rfl⟩
  rw [← hlen, runSteps_trans (runSteps_polled h ha hunmet hbound.le)]
  exact runSteps_succ (step_A1_exhausted hpolled hbound) 0

/-- From `s` to `t` a wait has made the status reads `reads`, and neither a data access, nor a write, nor a change of mode or
Driver State. -/
structure OnlyPolled (s t : State) (reads : List Byte) : Prop where
  mode : t.mode = s.mode
  driverState : t.driverState = s.driverState
  dataAnswers : t.dataAnswers = s.dataAnswers
  trace : t.trace = s.trace ++ reads.map (Obs.read s.params.ctrlPort)

/-- A status read, and then the rest of the wait. -/
theorem OnlyPolled.after_read {s t : State} {n : Nat} {reads : List Byte}
    (h : OnlyPolled { s.readStatus with pollN := n } t reads) : OnlyPolled s t (s.statusAnswer :: reads) where
  mode := h.mode
  driverState := h.driverState
  dataAnswers := h.dataAnswers
  trace := by rw [h.trace]; simp [State.portAddr]

/-- R105: a wait with `n` reads left returns within `n + 1` steps, whatever is answered. -/
theorem wait_returns {s : State} {n : Nat} (h : BusyAt .A1 s) (hn : s.pollN + n = s.params.pollBound) :
    ∃ k t reads, k ≤ n + 1 ∧ runSteps k s = .next t ∧ t.seq = s.retAwait ∧ OnlyPolled s t reads ∧
      reads.length ≤ n := by
  induction n generalizing s with
  | zero =>
    have hlast := step_A1_exhausted h hn
    exact ⟨1, _, [], Nat.le_refl 1, runSteps_succ hlast 0, rfl, ⟨rfl, rfl, rfl, by simp⟩, Nat.le_refl 0⟩
  | succ n ih =>
    have hp : s.pollN ≠ s.params.pollBound := by omega
    cases hm : waitMet s.dir s.statusAnswer with
    | true =>
      have hlast := step_A1_met h hp hm
      exact ⟨1, _, [s.statusAnswer], by omega, runSteps_succ hlast 0, rfl, ⟨rfl, rfl, rfl, rfl⟩, by simp⟩
    | false =>
      have hnext : BusyAt .A1 { s.readStatus with pollN := s.pollN + 1 } :=
        h.moved h.seq_eq rfl rfl rfl
      obtain ⟨k, t, reads, hk, hrun, hseq, honly, hlen⟩ := ih hnext (by simp; omega)
      exact ⟨k + 1, t, s.statusAnswer :: reads, by omega, (runSteps_succ (step_A1_again h hp hm) k).trans hrun, hseq,
        honly.after_read, by simpa using hlen⟩

/-- Settles O22, by the reads left. -/
theorem waitAlwaysEnds : Obligations.WaitAlwaysEnds := by
  intro s hb hu hs hp
  obtain ⟨k, t, reads, hk, hrun, hseq, honly, hlen⟩ := wait_returns ⟨hb, hu, hs⟩ (Nat.add_sub_cancel' hp)
  exact ⟨k, t, hk, hrun, hseq, honly.mode, honly.driverState, honly.dataAnswers, reads, honly.trace, hlen⟩

/-! ## The acknowledgement -/

/-- R73, R113: the acknowledgement is the one byte 0xFA. -/
theorem isAck_iff {b : Byte} : isAck b = true ↔ b = 0xFA := beq_iff_eq

/-- Settles O23: one data read, with a scripted answer. -/
theorem ackResult : Obligations.AckResult := by
  intro s b rest ha
  rw [exec_ack_goto, State.dataAnswer_scripted ha, State.readData_scripted ha]
  simp only [State.goto, isAck_iff]

/-- R113: the step at `S6`, with a scripted answer. -/
theorem step_S6 {s : State} {b : Byte} {rest : List Byte} (h : BusyAt .S6 s) (ha : s.dataAnswers = b :: rest) :
    step s = .next { s with
      dataReg := b
      dataAnswers := rest
      trace := s.trace ++ [.read s.params.dataPort b]
      seq := if b = 0xFA then s.retSend else .S6 } := by
  rw [h.step_eq, runLabel_S6_goto h.seq_eq, ← exec_ack_goto]
  exact ackResult s b rest ha

/-- The state after the data reads `junk` of the acknowledgement loop, none of them 0xFA, with `rest` still to answer. -/
def State.discarded (s : State) (junk rest : List Byte) : State :=
  { s with
    dataReg := junk.getLastD s.dataReg
    dataAnswers := rest
    trace := s.trace ++ junk.map (Obs.read s.params.dataPort) }

/-- More discarded reads after `first`. -/
theorem State.discarded_discarded (s : State) (first junk rest : List Byte) :
    (s.discarded first (junk ++ rest)).discarded junk rest = s.discarded (first ++ junk) rest := by
  simp [State.discarded]

/-- R113: an answer other than 0xFA is one read. -/
theorem step_discarded {s : State} {a : Byte} {rest : List Byte} (h : BusyAt .S6 s) (ha : s.dataAnswers = a :: rest)
    (hne : a ≠ 0xFA) : step s = .next (s.discarded [a] rest) := by
  rw [step_S6 h ha, if_neg hne, ← h.seq_eq]
  rfl

/-- R113: each answer other than 0xFA is one read, and the loop goes on. -/
theorem runSteps_discarded {s : State} {junk rest : List Byte} (h : BusyAt .S6 s) (ha : s.dataAnswers = junk ++ rest)
    (hjunk : (0xFA : Byte) ∉ junk) : runSteps junk.length s = .next (s.discarded junk rest) := by
  induction junk generalizing s with
  | nil =>
    obtain rfl : s.dataAnswers = rest := ha
    simp [runSteps, State.discarded]
  | cons a junk ih =>
    obtain ⟨hne, hjunk⟩ := List.ne_and_not_mem_of_not_mem_cons hjunk
    have hnext : BusyAt .S6 (s.discarded [a] (junk ++ rest)) := h.moved h.seq_eq rfl rfl rfl
    calc runSteps (junk.length + 1) s
      _ = runSteps junk.length (s.discarded [a] (junk ++ rest)) :=
        runSteps_succ (step_discarded h ha hne.symm) junk.length
      _ = .next ((s.discarded [a] (junk ++ rest)).discarded junk rest) := ih hnext rfl hjunk
      _ = .next (s.discarded (a :: junk) rest) := by rw [State.discarded_discarded, List.singleton_append]

/-- Settles O24: the discarded reads, and then the step that reads 0xFA. -/
theorem ackLoopDiscardsUntilAck : Obligations.AckLoopDiscardsUntilAck := by
  intro s junk rest hb hu hs ha hjunk
  have h : BusyAt .S6 s := ⟨hb, hu, hs⟩
  have hdiscarded : BusyAt .S6 (s.discarded junk (0xFA :: rest)) := h.moved hs rfl rfl rfl
  rw [runSteps_trans (runSteps_discarded h ha hjunk), runSteps_succ (step_S6 hdiscarded rfl)]
  simp [runSteps, State.discarded]

/-- Settles O25: the run is the discarded reads. -/
theorem ackLoopStallsWithoutAck : Obligations.AckLoopStallsWithoutAck := by
  intro s junk rest hm hu hs ha hjunk
  have h : BusyAt .S6 s := ⟨by rw [hm]; rfl, hu, hs⟩
  exact ⟨s.discarded junk rest, runSteps_discarded h ha hjunk, hm, hs, rfl, rfl, rfl⟩

/-! ## SEND_DEVICE_COMMAND -/

/-- The state after a wait called at `seq` and met at its first read, the byte `a`, with `rest` still to answer. -/
def State.waited (s : State) (d : Dir) (a : Byte) (rest : List Byte) : State :=
  { s with
    dir := d
    pollN := 0
    retAwait := nextLabel s.seq
    seq := nextLabel s.seq
    statusReg := a
    statusAnswers := rest
    trace := s.trace ++ [.read s.params.ctrlPort a] }

/-- R104: a call of a wait that is met at its first read takes two steps. -/
theorem runSteps_waited {l : Label} {s : State} {d : Dir} {a : Byte} {rest : List Byte} (h : BusyAt l s)
    (hcall : runLabel s = .next (s.callAwait d)) (hbound : 0 < s.params.pollBound) (ha : s.statusAnswers = a :: rest)
    (hmet : waitMet d a = true) : runSteps 2 s = .next (s.waited d a rest) := by
  have hwait : BusyAt .A1 (s.callAwait d) := h.moved rfl rfl rfl rfl
  rw [runSteps_succ (h.step_eq.trans hcall)]
  exact waitEndsAtFirstMetRead _ [] a rest hwait.busy hwait.undisturbed hwait.seq_eq ha (by simp) hmet hbound

/-- The state after a wait for the input buffer, met at its first read, and the port write that follows it. -/
def State.waitedAndWrote (s : State) (a : Byte) (rest : List Byte) (p : Port) (v : Byte) : State :=
  ((s.waited .send a rest).portWrite p v).goto (nextLabel (nextLabel s.seq))

/-- R110: a wait for the input buffer, met at its first read, and the write after it take three steps. -/
theorem runSteps_waitedAndWrote {l : Label} {s : State} {a v : Byte} {rest : List Byte} {p : Port} (h : BusyAt l s)
    (hcall : runLabel s = .next (s.callAwait .send))
    (hwrite : runLabel (s.waited .send a rest) = .next (s.waitedAndWrote a rest p v))
    (hbound : 0 < s.params.pollBound) (ha : s.statusAnswers = a :: rest) (hmet : a.getLsbD 1 = false) :
    runSteps 3 s = .next (s.waitedAndWrote a rest p v) := by
  have hwaited : BusyAt (nextLabel s.seq) (s.waited .send a rest) := h.moved rfl rfl rfl rfl
  calc runSteps 3 s
    _ = runSteps 1 (s.waited .send a rest) :=
      runSteps_trans (m := 2) (n := 1) (runSteps_waited h hcall hbound ha (waitMet_iff.2 (.inl ⟨rfl, hmet⟩)))
    _ = .next (s.waitedAndWrote a rest p v) := runSteps_succ (hwaited.step_eq.trans hwrite) 0

/-- The state at `S3`, when SEND_DEVICE_COMMAND has sent the route byte and its first wait was met at its first read. -/
def State.routed (s : State) (c a₁ : Byte) (stat : List Byte) : State :=
  (s.callSend c).waitedAndWrote a₁ stat .ctrl 0xD4

/-- The state at `S6`, when SEND_DEVICE_COMMAND has sent the route byte and `c` and each of its three waits was met at its first
read. -/
def State.commandSent (s : State) (c a₁ a₂ a₃ : Byte) (stat : List Byte) : State :=
  { s with
    cmd := c
    retSend := nextLabel s.seq
    dir := .recv
    pollN := 0
    retAwait := .S6
    seq := .S6
    statusReg := a₃
    statusAnswers := stat
    trace := s.trace ++ [.read s.params.ctrlPort a₁, .write s.params.ctrlPort 0xD4, .read s.params.ctrlPort a₂,
      .write s.params.dataPort c, .read s.params.ctrlPort a₃] }

/-- The last wait of SEND_DEVICE_COMMAND, after both of its writes. -/
theorem State.waited_routed_eq_commandSent (s : State) (c a₁ a₂ a₃ : Byte) (stat : List Byte) :
    ((s.routed c a₁ (a₂ :: a₃ :: stat)).waitedAndWrote a₂ (a₃ :: stat) .data c).waited .recv a₃ stat =
      s.commandSent c a₁ a₂ a₃ stat := by
  simp [State.commandSent, State.routed, State.waitedAndWrote, State.waited, State.callSend, State.portWrite,
    State.record, State.portAddr, State.goto, nextLabel]

/-- R110: from the call to `S6`, each wait met at its first read. -/
theorem runSteps_commandSent {l : Label} {s : State} {c a₁ a₂ a₃ : Byte} {stat : List Byte} (h : BusyAt l s)
    (hcall : runLabel s = .next (s.callSend c)) (hbound : 0 < s.params.pollBound)
    (h₁ : a₁.getLsbD 1 = false) (h₂ : a₂.getLsbD 1 = false) (h₃ : a₃.getLsbD 0 = true)
    (ha : s.statusAnswers = a₁ :: a₂ :: a₃ :: stat) :
    runSteps 9 s = .next (s.commandSent c a₁ a₂ a₃ stat) := by
  have hS1 : BusyAt .S1 (s.callSend c) := h.moved rfl rfl rfl rfl
  have hS3 : BusyAt .S3 (s.routed c a₁ (a₂ :: a₃ :: stat)) := hS1.moved rfl rfl rfl rfl
  have hS5 : BusyAt .S5 ((s.routed c a₁ (a₂ :: a₃ :: stat)).waitedAndWrote a₂ (a₃ :: stat) .data c) :=
    hS3.moved rfl rfl rfl rfl
  calc runSteps 9 s
    _ = runSteps 8 (s.callSend c) := runSteps_succ (h.step_eq.trans hcall) 8
    _ = runSteps 5 (s.routed c a₁ (a₂ :: a₃ :: stat)) :=
      runSteps_trans (m := 3) (n := 5)
        (runSteps_waitedAndWrote hS1 (runLabel_awaitSend (by simp)) (runLabel_S2 rfl) hbound ha h₁)
    _ = runSteps 2 ((s.routed c a₁ (a₂ :: a₃ :: stat)).waitedAndWrote a₂ (a₃ :: stat) .data c) :=
      runSteps_trans (m := 3) (n := 2)
        (runSteps_waitedAndWrote hS3 (runLabel_awaitSend (by simp [hS3.seq_eq])) (runLabel_S4 rfl) hbound rfl h₂)
    _ = .next (((s.routed c a₁ (a₂ :: a₃ :: stat)).waitedAndWrote a₂ (a₃ :: stat) .data c).waited .recv a₃ stat) :=
      runSteps_waited hS5 (runLabel_awaitRecv (by simp [hS5.seq_eq])) hbound rfl (waitMet_iff.2 (.inr ⟨rfl, h₃⟩))
    _ = .next (s.commandSent c a₁ a₂ a₃ stat) := congrArg _ (s.waited_routed_eq_commandSent c a₁ a₂ a₃ stat)

/-- R111, R112: the two labels that call SEND_DEVICE_COMMAND, each with its own command. -/
theorem runLabel_callSend {s : State} {c : Byte} (h : s.seq = .I5 ∧ c = 0xF6 ∨ s.seq = .I6 ∧ c = 0xF4) :
    runLabel s = .next (s.callSend c) := by
  obtain ⟨hs, rfl⟩ | ⟨hs, rfl⟩ := h
  · exact runLabel_I5 hs
  · exact runLabel_I6 hs

/-- Settles O26: the run to `S6`, and then the acknowledgement loop. -/
theorem sendDeviceCommandRun : Obligations.SendDeviceCommandRun := by
  intro s c a₁ a₂ a₃ junk stat rest hm hu hbound hcall h₁ h₂ h₃ hstat hdata hjunk
  have h : BusyAt s.seq s := ⟨by rw [hm]; rfl, hu, rfl⟩
  have hS6 : BusyAt .S6 (s.commandSent c a₁ a₂ a₃ stat) := h.moved rfl rfl rfl rfl
  have hsent := runSteps_commandSent h (runLabel_callSend hcall) hbound h₁ h₂ h₃ hstat
  have hacked := ackLoopDiscardsUntilAck _ junk rest hS6.busy hS6.undisturbed hS6.seq_eq hdata hjunk
  have hlen : junk.length + 10 = 9 + (junk.length + 1) := by omega
  rw [hlen, runSteps_trans hsent]
  exact ⟨_, hacked, hm, rfl, rfl, rfl, rfl, rfl, rfl, List.append_assoc ..⟩

end Sys2Proof.Machine
end

section
/-! INIT's progress (R131, R141): what the records since INIT began show at each of its positions, and that
every step keeps it. -/

namespace Sys2Proof.Machine

open Sys2Proof.Config

/-! ## The accesses behind a position -/

/-- The records `since` show of R141's accesses exactly those that precede the position `l`, `c` being the configuration
byte read at `I2d`; `CFG` holds what the labels at that position need of it. -/
structure AccessesBefore (p : Params) (second : Bool) (cfg c : Byte) (l : Label) (since : List Obs) : Prop where
  writes : writesOf since = (initWrites p c).take (writesBefore second l)
  reads : DataReadsBefore second c (readsAt p.dataPort since) l
  events : eventsOf since = []
  enables : enablesOf since = if l = .I8 then [(p.irqIndex, p.irqTarget)] else []
  cfgRead : l = .I3 → cfg = c
  cfgForced : l ∈ [Label.I4a, .I4b, .I4c, .I4d] → cfg = withAuxInterrupt c

theorem Initialising.exists_accesses {before : List Obs} {s : State} (h : Initialising before s) :
    ∃ since c, s.trace = before ++ since ∧
      AccessesBefore s.params (decide (s.retSend = .I7)) s.cfg c s.position since := by
  obtain ⟨since, c, htrace, hw, hr, he, hn, hread, hforced⟩ := h.made
  exact ⟨since, c, htrace, hw, hr, he, hn, hread, hforced⟩

theorem Initialising.of_accesses {before since : List Obs} {c : Byte} {s : State} (hm : s.mode = .init)
    (htrace : s.trace = before ++ since)
    (h : AccessesBefore s.params (decide (s.retSend = .I7)) s.cfg c s.position since) : Initialising before s :=
  ⟨hm, since, c, htrace, h.writes, h.reads, h.events, h.enables, h.cfgRead, h.cfgForced⟩

/-- The moves to come and the request lines are no part of INIT's progress. -/
theorem Initialising.of_lines {before : List Obs} {s : State} (h : Initialising before s) (schedule : List Move)
    (r i q : Bool) : Initialising before { s with schedule := schedule, resetReq := r, initReq := i, irqReq := q } :=
  ⟨h.running, h.made⟩

section
variable {p : Params} {second second' : Bool} {cfg cfg' c c' : Byte} {l l' : Label} {since new : List Obs}

/-- R131: INIT begins with no access made. -/
theorem AccessesBefore.start : AccessesBefore p second cfg c .I0 [] :=
  ⟨rfl, rfl, rfl, rfl, nofun, by simp⟩

/-- Going on to the position `l'`: the new records make the accesses that stand between the two positions. -/
theorem AccessesBefore.extend (h : AccessesBefore p second cfg c l since)
    (hw : (initWrites p c').take (writesBefore second' l') =
      (initWrites p c).take (writesBefore second l) ++ writesOf new)
    (hr : ∀ reads, DataReadsBefore second c reads l →
      DataReadsBefore second' c' (reads ++ readsAt p.dataPort new) l')
    (he : eventsOf new = [])
    (hn : (if l' = .I8 then [(p.irqIndex, p.irqTarget)] else []) =
      (if l = .I8 then [(p.irqIndex, p.irqTarget)] else []) ++ enablesOf new)
    (hread : l' = .I3 → cfg' = c')
    (hforced : l' ∈ [Label.I4a, .I4b, .I4c, .I4d] → cfg' = withAuxInterrupt c') :
    AccessesBefore p second' cfg' c' l' (since ++ new) where
  writes := by rw [writesOf_append, h.writes, hw]
  reads := by rw [readsAt_append]; exact hr _ h.reads
  events := by rw [eventsOf_append, h.events, he]; rfl
  enables := by rw [enablesOf_append, h.enables, hn]
  cfgRead := hread
  cfgForced := hforced

/-- A status read is no access of R141, the ports being different (R52). -/
theorem AccessesBefore.statusRead (h : AccessesBefore p second cfg c l since) (hp : p.wf = true) (b : Byte) :
    AccessesBefore p second cfg c l (since ++ [.read p.ctrlPort b]) :=
  h.extend (by simp [writesOf]) (by simp [readsAt, of_decide_eq_true hp]) rfl (by simp [enablesOf]) h.cfgRead
    h.cfgForced

/-- The labels after which R28 goes on without an access: `I0`, and those that call a wait. -/
def silentLabels : List Label := [.I0, .I1a, .I2a, .I2c, .I4a, .I4c, .S1, .S3, .S5]

/-- R28, R141: the same accesses precede the label after one that makes none. -/
theorem AccessesBefore.silent (h : AccessesBefore p second cfg c l since) (hl : l ∈ silentLabels) :
    AccessesBefore p second cfg c (nextLabel l) (since ++ []) := by
  have hforced : nextLabel l ∈ [Label.I4a, .I4b, .I4c, .I4d] → cfg = withAuxInterrupt c := fun hnext =>
    h.cfgForced <| (by decide : ∀ l ∈ silentLabels, nextLabel l ∈ [Label.I4a, .I4b, .I4c, .I4d] →
      l ∈ [Label.I4a, .I4b, .I4c, .I4d]) l hl hnext
  simp only [silentLabels, List.mem_cons, List.not_mem_nil, or_false] at hl
  rcases hl with rfl | rfl | rfl | rfl | rfl | rfl | rfl | rfl | rfl <;>
    exact h.extend (List.append_nil _).symm (fun reads hr => (List.append_nil reads).symm ▸ hr) rfl rfl nofun hforced

/-- The labels of R28 that write to a port. -/
def writingLabels : List Label := [.I1b, .I2b, .I4b, .I4d, .S2, .S4]

/-- R141: the write at a label is the next of the eight. -/
theorem AccessesBefore.write (h : AccessesBefore p second cfg c l since) (hl : l ∈ writingLabels) {a : Nat} {v : Byte}
    (hw : (initWrites p c)[writesBefore second l]? = some (a, v)) :
    AccessesBefore p second cfg c (nextLabel l) (since ++ [.write a v]) := by
  have hforced : nextLabel l ∈ [Label.I4a, .I4b, .I4c, .I4d] → cfg = withAuxInterrupt c := fun hnext =>
    h.cfgForced <| (by decide : ∀ l ∈ writingLabels, nextLabel l ∈ [Label.I4a, .I4b, .I4c, .I4d] →
      l ∈ [Label.I4a, .I4b, .I4c, .I4d]) l hl hnext
  have hcount : writesBefore second (nextLabel l) = writesBefore second l + 1 :=
    (by decide : ∀ second, ∀ l ∈ writingLabels, writesBefore second (nextLabel l) = writesBefore second l + 1)
      second l hl
  have htake : (initWrites p c).take (writesBefore second (nextLabel l)) =
      (initWrites p c).take (writesBefore second l) ++ writesOf [.write a v] := by
    rw [hcount, List.take_add_one, hw]; rfl
  simp only [writingLabels, List.mem_cons, List.not_mem_nil, or_false] at hl
  rcases hl with rfl | rfl | rfl | rfl | rfl | rfl <;>
    exact h.extend htake (fun reads hr => (List.append_nil reads).symm ▸ hr) rfl rfl nofun hforced

/-- R134: the byte read at `I2d` is the one INIT writes back. -/
theorem AccessesBefore.configRead (h : AccessesBefore p second cfg c .I2d since) (b : Byte) :
    AccessesBefore p second b b .I3 (since ++ [.read p.dataPort b]) :=
  have hreads : [] ++ readsAt p.dataPort [.read p.dataPort b] = [b] := by simp [readsAt]
  h.extend rfl (fun reads (hr : reads = []) => hr ▸ hreads) rfl rfl (fun _ => rfl) (by simp)

/-- R135: `I3` forces bit 1 of the byte read. -/
theorem AccessesBefore.configForced (h : AccessesBefore p second cfg c .I3 since) :
    AccessesBefore p second (withAuxInterrupt cfg) c .I4a (since ++ []) :=
  h.extend rfl (fun reads hr => (List.append_nil reads).symm ▸ hr) rfl rfl nofun (fun _ => by rw [h.cfgRead rfl])

/-- R137: the first SEND_DEVICE_COMMAND begins with the configuration byte alone read. -/
theorem AccessesBefore.firstCall (h : AccessesBefore p second cfg c .I5 since) :
    AccessesBefore p false cfg c .S1 (since ++ []) :=
  h.extend rfl (fun _ hr => ⟨[], by simp, (List.append_nil _).trans hr⟩) rfl rfl nofun (by simp)

/-- R138: the second SEND_DEVICE_COMMAND begins with one acknowledgement loop behind it. -/
theorem AccessesBefore.secondCall (h : AccessesBefore p second cfg c .I6 since) :
    AccessesBefore p true cfg c .S1 (since ++ []) :=
  h.extend rfl (fun _ ⟨j, hj, hr⟩ => ⟨j, [], hj, by simp, by simpa [readsAt] using hr⟩) rfl rfl nofun (by simp)

/-- R139: past `I7` the line is enabled, once. -/
theorem AccessesBefore.enable (h : AccessesBefore p second cfg c .I7 since) :
    AccessesBefore p second cfg c .I8 (since ++ [.enableIrq p.irqIndex p.irqTarget]) :=
  h.extend rfl (fun reads hr => (List.append_nil reads).symm ▸ hr) rfl rfl nofun (by simp)

/-- R113: a byte other than 0xFA lengthens the running acknowledgement loop. -/
theorem DataReadsBefore.discard {reads : List Byte} {b : Byte} (h : DataReadsBefore second c reads .S6)
    (hb : b ≠ ackByte) : DataReadsBefore second c (reads ++ [b]) .S6 := by
  cases second
  case false =>
    obtain ⟨j, hj, rfl⟩ := h
    exact ⟨j ++ [b], by simp [hj, hb.symm], rfl⟩
  case true =>
    obtain ⟨j, k, hj, hk, rfl⟩ := h
    exact ⟨j, k ++ [b], hj, by simp [hk, hb.symm], by simp⟩

theorem AccessesBefore.discard (h : AccessesBefore p second cfg c .S6 since) {b : Byte} (hb : b ≠ ackByte) :
    AccessesBefore p second cfg c .S6 (since ++ [.read p.dataPort b]) :=
  h.extend (List.append_nil _).symm (fun _ hr => by simpa [readsAt] using hr.discard hb) rfl rfl nofun (by simp)

/-- R113, R141: 0xFA ends the first acknowledgement loop. -/
theorem AccessesBefore.firstAck (h : AccessesBefore p false cfg c .S6 since) :
    AccessesBefore p false cfg c .I6 (since ++ [.read p.dataPort ackByte]) :=
  h.extend rfl (fun _ ⟨j, hj, hr⟩ => ⟨j, hj, by simp [hr, readsAt]⟩) rfl rfl nofun (by simp)

/-- R113, R141: 0xFA ends the second acknowledgement loop. -/
theorem AccessesBefore.secondAck (h : AccessesBefore p true cfg c .S6 since) :
    AccessesBefore p true cfg c .I7 (since ++ [.read p.dataPort ackByte]) :=
  h.extend rfl (fun _ ⟨j, k, hj, hk, hr⟩ => ⟨j, k, hj, hk, by simp [hr, readsAt]⟩) rfl rfl nofun (by simp)

end

/-! ## Every step keeps them -/

theorem State.position_eq {s : State} {l : Label} (h : s.seq = l) (hl : l ≠ .A1) : s.position = l := by
  subst h
  exact State.position_of_ne_A1 hl

/-- INIT goes on from the position `l` to `l'`, putting out `new`. -/
theorem Initialising.after {before new : List Obs} {s t : State} {l l' : Label} (h : Initialising before s)
    (hs : s.position = l) (ht : t.position = l') (hmode : t.mode = s.mode) (hparams : t.params = s.params)
    (htrace : t.trace = s.trace ++ new)
    (hnext : ∀ since c, AccessesBefore s.params (decide (s.retSend = .I7)) s.cfg c l since →
      ∃ c', AccessesBefore s.params (decide (t.retSend = .I7)) t.cfg c' l' (since ++ new)) :
    Initialising before t := by
  subst hs ht
  obtain ⟨since, c, hsince, hmade⟩ := h.exists_accesses
  obtain ⟨c', hmade'⟩ := hnext since c hmade
  exact .of_accesses (hmode.trans h.running) (by rw [htrace, hsince, List.append_assoc]) (hparams ▸ hmade')

section
variable {before : List Obs} {s : State} {l : Label}

/-- R104: a call of a wait makes no access, and its position is the label to resume at. -/
theorem Initialising.callAwait (h : Initialising before s) (hs : s.seq = l) (hl : l ∈ silentLabels) (d : Dir) :
    Initialising before (s.callAwait d) := by
  have hne : ∀ l ∈ silentLabels, l ≠ .A1 := by decide
  exact h.after (State.position_eq hs (hne l hl)) (by rw [← hs]; rfl) rfl rfl (List.append_nil _).symm
    fun _ c hmade => ⟨c, hmade.silent hl⟩

/-- R141: a label's write is the next of the eight. -/
theorem Initialising.portWrite (h : Initialising before s) (hs : s.seq = l) (hl : l ∈ writingLabels)
    {port : Port} {v : Byte}
    (hw : ∀ c, (l = .I4d → s.cfg = withAuxInterrupt c) →
      (initWrites s.params c)[writesBefore (decide (s.retSend = .I7)) l]? = some (s.portAddr port, v)) :
    Initialising before ((s.portWrite port v).goto (nextLabel l)) := by
  have hne : ∀ l ∈ writingLabels, l ≠ .A1 ∧ nextLabel l ≠ .A1 := by decide
  have hI4d : l = .I4d → l ∈ [Label.I4a, .I4b, .I4c, .I4d] := by rintro rfl; decide
  exact h.after (State.position_eq hs (hne l hl).1) (State.position_eq rfl (hne l hl).2) rfl rfl rfl
    fun _ c hmade => ⟨c, hmade.write hl (hw c fun hl => hmade.cfgForced (hI4d hl))⟩

/-- R104, R105: a step of a wait moves no position and makes no access of R141. -/
theorem Initialising.statusRead {t : State} (h : Initialising before s) (hp : s.params.wf = true)
    (ht : t.position = s.position) (hmode : t.mode = s.mode) (hparams : t.params = s.params)
    (htrace : t.trace = s.trace ++ [.read s.params.ctrlPort s.statusAnswer]) (hret : t.retSend = s.retSend)
    (hcfg : t.cfg = s.cfg) : Initialising before t :=
  h.after rfl ht hmode hparams htrace fun _ c hmade => ⟨c, by rw [hret, hcfg]; exact hmade.statusRead hp _⟩

/-- R27, R81: in INIT, SEND_DEVICE_COMMAND returns to `I6` with the first command and to `I7` with the second. -/
theorem Coherent.send_cases (hs : Coherent s) (hm : s.mode = .init) (hseq : s.seq = l) (hl : l ∈ sendLabels) :
    (s.retSend = .I6 ∧ s.cmd = 0xF6) ∨ (s.retSend = .I7 ∧ s.cmd = 0xF4) := by
  have hne : ∀ l ∈ sendLabels, l ≠ .A1 := by decide
  simpa using (hs.placed_seq hseq (hne l hl)).inSend hm hl

/-- R113: the acknowledgement's data read goes on with the running loop, or ends it. -/
theorem Initialising.finishAck (h : Initialising before s) (hc : Coherent s) (hs : s.seq = .S6) :
    Initialising before (s.readData.goto (if isAck s.dataAnswer then s.retSend else .S6)) := by
  have hpos : s.position = .S6 := State.position_eq hs (by decide)
  cases hb : isAck s.dataAnswer
  case false =>
    exact h.after hpos rfl rfl rfl rfl fun _ c hmade => ⟨c, hmade.discard (ne_of_beq_false hb)⟩
  case true =>
    have hack : s.dataAnswer = ackByte := eq_of_beq hb
    obtain ⟨hret, -⟩ | ⟨hret, -⟩ := hc.send_cases h.running hs (by decide)
    · refine h.after (l' := .I6) hpos (by simp [State.position, hret]) rfl rfl rfl fun _ c hmade => ⟨c, ?_⟩
      simp only [State.goto_retSend, State.readData_retSend, hret, hack] at hmade ⊢
      exact hmade.firstAck
    · refine h.after (l' := .I7) hpos (by simp [State.position, hret]) rfl rfl rfl fun _ c hmade => ⟨c, ?_⟩
      simp only [State.goto_retSend, State.readData_retSend, hret, hack] at hmade ⊢
      exact hmade.secondAck

/-- R28, R141: every label of INIT but its last keeps INIT's progress. -/
theorem runLabel_initialising (hc : Coherent s) (h : Initialising before s) (hI8 : s.seq ≠ .I8) :
    ∃ t, runLabel s = .next t ∧ Initialising before t := by
  cases hs : s.seq
  case I0 =>
    exact ⟨_, runLabel_I0 hs, h.after (State.position_eq hs (by decide)) rfl rfl rfl (List.append_nil _).symm
      fun _ c hmade => ⟨c, hmade.silent (by decide)⟩⟩
  case I1a | I2a | I4a | I4c | S1 | S3 =>
    exact ⟨_, runLabel_awaitSend (by simp [hs]), h.callAwait hs (by decide) _⟩
  case I2c | S5 => exact ⟨_, runLabel_awaitRecv (by simp [hs]), h.callAwait hs (by decide) _⟩
  case I1b => exact ⟨_, runLabel_I1b hs, h.portWrite hs (by decide) fun _ _ => rfl⟩
  case I2b => exact ⟨_, runLabel_I2b hs, h.portWrite hs (by decide) fun _ _ => rfl⟩
  case I2d =>
    exact ⟨_, runLabel_I2d hs, h.after (State.position_eq hs (by decide)) rfl rfl rfl rfl
      fun _ _ hmade => ⟨s.dataAnswer, hmade.configRead _⟩⟩
  case I3 =>
    exact ⟨_, runLabel_I3 hs, h.after (State.position_eq hs (by decide)) rfl rfl rfl (List.append_nil _).symm
      fun _ c hmade => ⟨c, hmade.configForced⟩⟩
  case I4b => exact ⟨_, runLabel_I4b hs, h.portWrite hs (by decide) fun _ _ => rfl⟩
  case I4d => exact ⟨_, runLabel_I4d hs, h.portWrite hs (by decide) fun _ hcfg => by rw [hcfg rfl]; rfl⟩
  case I5 =>
    exact ⟨_, runLabel_I5 hs, h.after (l' := .S1) (State.position_eq hs (by decide)) rfl rfl rfl
      (List.append_nil _).symm fun _ c hmade => ⟨c, by simpa [hs, nextLabel] using hmade.firstCall⟩⟩
  case I6 =>
    exact ⟨_, runLabel_I6 hs, h.after (l' := .S1) (State.position_eq hs (by decide)) rfl rfl rfl
      (List.append_nil _).symm fun _ c hmade => ⟨c, by simpa [hs, nextLabel] using hmade.secondCall⟩⟩
  case I7 =>
    exact ⟨_, runLabel_I7 hs, h.after (State.position_eq hs (by decide)) rfl rfl rfl rfl
      fun _ c hmade => ⟨c, hmade.enable⟩⟩
  case I8 => exact absurd hs hI8
  case S2 =>
    refine ⟨_, runLabel_S2 hs, h.portWrite hs (by decide) fun _ _ => ?_⟩
    cases decide (s.retSend = .I7) <;> rfl
  case S4 =>
    refine ⟨_, runLabel_S4 hs, h.portWrite hs (by decide) fun _ _ => ?_⟩
    obtain ⟨hret, hcmd⟩ | ⟨hret, hcmd⟩ := hc.send_cases h.running hs (by decide) <;> rw [hret, hcmd] <;> rfl
  case S6 => exact ⟨_, runLabel_S6_goto hs, h.finishAck hc hs⟩
  case A1 =>
    have hpos : s.position = s.retAwait := State.position_of_A1 hs
    have hret : s.retAwait ≠ .A1 := (hc.placed_retAwait hs).ne_A1 (by simp [h.running, isQuiescent])
    by_cases hp : s.pollN = s.params.pollBound
    · exact ⟨_, runLabel_A1_exhausted hs hp, h.after hpos (State.position_eq rfl hret) rfl rfl
        (List.append_nil _).symm fun _ c hmade => ⟨c, by rw [List.append_nil]; exact hmade⟩⟩
    · cases hm : waitMet s.dir s.statusAnswer
      · exact ⟨_, runLabel_A1_again hs hp hm, h.statusRead hc.ports rfl rfl rfl rfl rfl rfl⟩
      · exact ⟨_, runLabel_A1_met hs hp hm,
          h.statusRead hc.ports ((State.position_eq rfl hret).trans hpos.symm) rfl rfl rfl rfl rfl⟩
  case H1 | H2 | H3 | H4 | H5 | H6 | H7 =>
    exact absurd h.running ((hc.placed_seq hs (by decide)).ne_init (by decide))

/-- R140, R141: past `I8` every access of R141 is made. -/
theorem Initialising.finish (h : Initialising before s) (hs : s.seq = .I8) :
    Initialised before { s with mode := .armed } := by
  obtain ⟨since, c, htrace, hmade⟩ := h.exists_accesses
  rw [State.position_eq hs (by decide)] at hmade
  obtain ⟨j, k, hj, hk, hreads⟩ := hmade.reads
  exact ⟨rfl, since, c, j, k, htrace, hmade.writes, hj, hk, hreads, hmade.events, hmade.enables⟩

/-- R141, R201: the block's move keeps INIT's progress, or ends INIT with every access made. -/
theorem blockTurn_initialising {t : State} (hc : Coherent s) (h : Initialising before s) (hr : s.resetReq = false)
    (hturn : blockTurn s = .next t) :
    (t.mode = .init ∧ Initialising before t) ∨ (s.seq = .I8 ∧ Initialised before t) := by
  rw [blockTurn_busy (by simp [h.running, isQuiescent]) hr] at hturn
  by_cases hs : s.seq = .I8
  · cases (runLabel_I8 hs).symm.trans hturn
    exact .inr ⟨hs, h.finish hs⟩
  · obtain ⟨u, hu, hi⟩ := runLabel_initialising hc h hs
    cases hu.symm.trans hturn
    exact .inl ⟨hi.running, hi⟩

end

/-- Settles O33, from the block's turn: the moves of the other agents change lines alone. -/
theorem initAccessOrderKept : Obligations.InitAccessOrderKept := by
  intro before s t hc h hr hstep
  obtain ⟨-, hb⟩ | ⟨rest, -, hb⟩ | ⟨m, rest, -, -, r, i, q, rfl, -⟩ := step_cases hstep
  · exact blockTurn_initialising hc h hr hb
  · exact blockTurn_initialising (s := { s with schedule := rest }) (hc.of_lines rest s.resetReq s.initReq s.irqReq)
      (h.of_lines rest s.resetReq s.initReq s.irqReq) hr hb
  · exact .inl ⟨h.running, h.of_lines rest r i q⟩

end Sys2Proof.Machine
end

section
/-! INIT's acceptance (R130), its internal steps (R132, R139) and the configuration byte (R134 to R136). -/

namespace Sys2Proof.Machine

/-! ## Acceptance -/

/-- R130: a quiescent block accepts INIT. -/
theorem exec_init_accepted {s : State} (h : isQuiescent s.mode = true) :
    exec .init s = .next { s with mode := .init, seq := .I0, initReq := false } :=
  if_pos h

/-- R130, R202: a busy block leaves INIT outstanding. -/
theorem exec_init_held {s : State} (h : isQuiescent s.mode = false) : exec .init s = .next { s with initReq := true } :=
  if_neg (Bool.eq_false_iff.1 h)

/-- Settles O4, by whether the mode is quiescent (R201). -/
theorem initAcceptedWhenQuiescent : Obligations.InitAcceptedWhenQuiescent := by
  intro s
  constructor <;> rintro (hm | hm)
  case left.inl | left.inr => exact exec_init_accepted (by rw [hm]; rfl)
  case right.inl | right.inr => exact exec_init_held (by rw [hm]; rfl)

/-- Settles O32: no record precedes `I0`. -/
theorem initStartsInitialising : Obligations.InitStartsInitialising := by
  intro s t hq h
  cases (exec_init_accepted hq).symm.trans h
  exact .of_accesses (c := 0x00) rfl (List.append_nil _).symm .start

/-! ## Internal steps, and the configuration byte -/

/-- Settles O27: the zeroed buffer reads 0x00 at every slot. -/
theorem zeroStateResult : Obligations.ZeroStateResult :=
  fun _ => ⟨_, rfl, Memory.read_zeroed, rfl, rfl⟩

/-- Settles O28: the operation is `State.record` of the call. -/
theorem enableIrqLineResult : Obligations.EnableIrqLineResult :=
  fun _ => rfl

/-- R76, R135: every bit of the configuration byte but bit 1 is written back as read. -/
theorem withAuxInterrupt_bit_other (b : Byte) {i : Nat} (hi : i ≠ 1) : (withAuxInterrupt b).getLsbD i = b.getLsbD i := by
  have haux : auxIntEn = BitVec.twoPow 8 1 := rfl
  simp [withAuxInterrupt, haux, BitVec.getLsbD_twoPow, hi.symm]

/-- R134: the step at `I2d`, with a scripted answer. -/
theorem runLabel_I2d_scripted {s : State} {c : Byte} {rest : List Byte} (h : s.seq = .I2d)
    (ha : s.dataAnswers = c :: rest) : runLabel s = .next { s with
      dataReg := c
      dataAnswers := rest
      trace := s.trace ++ [.read s.params.dataPort c]
      cfg := c
      seq := .I3 } := by
  rw [runLabel_I2d h, State.readData_scripted ha, State.dataAnswer_scripted ha]

/-- Settles O29, from the labels `I2d`, `I3` and `I4d`. -/
theorem configurationByteSteps : Obligations.ConfigurationByteSteps := by
  intro s hm hu
  have hbusy : isQuiescent s.mode = false := by rw [hm]; rfl
  have hstep : step s = runLabel s := step_busy hbusy hu.alone hu.noReset
  rw [hstep]
  exact ⟨fun c rest hs ha => ⟨_, runLabel_I2d_scripted hs ha, rfl, rfl, rfl, rfl⟩,
    fun hs => ⟨_, runLabel_I3 hs, rfl, withAuxInterrupt_bit_one s.cfg, fun i => withAuxInterrupt_bit_other s.cfg⟩,
    runLabel_I4d⟩

end Sys2Proof.Machine
end

section
/-! The bound on INIT's run to the acknowledgement or to its end (R104, R143): how many steps are left at most, and that every
step but that of `S6` leaves fewer. -/

namespace Sys2Proof.Machine

/-! ## The steps left -/

/-- A bound on the block's steps from a label of INIT or SEND_DEVICE_COMMAND, outside a wait, to `S6` or to `I8`: one step a
label, and one a status read and one to return for every wait of `bound` reads (R28, R104). -/
def stepsToAckFrom (bound : Nat) : Label → Nat
  | .I0 => 8 * bound + 26 | .I1a => 8 * bound + 25 | .I1b => 7 * bound + 23 | .I2a => 7 * bound + 22
  | .I2b => 6 * bound + 20 | .I2c => 6 * bound + 19 | .I2d => 5 * bound + 17 | .I3 => 5 * bound + 16
  | .I4a => 5 * bound + 15 | .I4b => 4 * bound + 13 | .I4c => 4 * bound + 12 | .I4d => 3 * bound + 10
  | .I5 | .I6 => 3 * bound + 9 | .S1 => 3 * bound + 8 | .S2 => 2 * bound + 6 | .S3 => 2 * bound + 5
  | .S4 => bound + 3 | .S5 => bound + 2 | .I7 => 1
  | _ => 0

/-- The bound from a state: in a wait, the reads and the return still to come, and then those from the label to resume at. -/
def State.stepsToAck (s : State) : Nat :=
  if s.seq = .A1 then s.params.pollBound - s.pollN + 1 + stepsToAckFrom s.params.pollBound s.retAwait
  else stepsToAckFrom s.params.pollBound s.seq

theorem State.stepsToAck_of_A1 {s : State} (h : s.seq = .A1) :
    s.stepsToAck = s.params.pollBound - s.pollN + 1 + stepsToAckFrom s.params.pollBound s.retAwait :=
  if_pos h

theorem State.stepsToAck_of_seq {s : State} {l : Label} (h : s.seq = l) (hl : l ≠ .A1) :
    s.stepsToAck = stepsToAckFrom s.params.pollBound l := by
  subst h
  exact if_neg hl

/-- The first wait of INIT ends at `I1b`, so no label that a wait ends at is further from the acknowledgement. -/
theorem stepsToAckFrom_waitBefore {l : Label} {d : Dir} (h : waitBefore l = some d) (bound : Nat) :
    stepsToAckFrom bound l ≤ 7 * bound + 23 := by
  cases l
  case I1b | I2b | I4b | I4d | S2 | S4 | I2d | S6 | H2 => simp only [stepsToAckFrom]; omega
  all_goals cases h

/-- R143: from every point of INIT the bound is within eight waits and the labels between them. -/
theorem State.stepsToAck_le {s : State} (hc : Coherent s) (hm : s.mode = .init) :
    s.stepsToAck ≤ 8 * s.params.pollBound + 26 := by
  by_cases hs : s.seq = .A1
  · have hwait := stepsToAckFrom_waitBefore (hc.resumes (by rw [hm]; rfl) hs) s.params.pollBound
    rw [State.stepsToAck_of_A1 hs]
    omega
  · rw [State.stepsToAck_of_seq rfl hs]
    cases s.seq <;> simp only [stepsToAckFrom] <;> omega

/-! ## Every step leaves fewer -/

/-- From `s` to `t` the block has ended INIT, or has come nearer to the acknowledgement, and no other agent has moved. -/
structure NearerAck (s t : State) : Prop where
  schedule : t.schedule = s.schedule
  resetReq : t.resetReq = s.resetReq
  nearer : t.mode = .armed ∨ (t.mode = s.mode ∧ t.stepsToAck < s.stepsToAck)

/-- A label of one step. -/
theorem NearerAck.of_label {s t : State} {l l' : Label} (hs : s.seq = l) (hl : l ≠ .A1)
    (ht : t.seq = l') (hl' : l' ≠ .A1) (hschedule : t.schedule = s.schedule) (hreset : t.resetReq = s.resetReq)
    (hmode : t.mode = s.mode) (hparams : t.params = s.params)
    (hless : ∀ bound, stepsToAckFrom bound l = stepsToAckFrom bound l' + 1) :
    NearerAck s t := by
  refine ⟨hschedule, hreset, .inr ⟨hmode, ?_⟩⟩
  rw [State.stepsToAck_of_seq hs hl, State.stepsToAck_of_seq ht hl', hparams, hless]
  exact Nat.lt_succ_self _

/-- A call of a wait. -/
theorem NearerAck.callAwait {s : State} {l : Label} (hs : s.seq = l) (hl : l ≠ .A1) (d : Dir)
    (hless : ∀ bound, bound + 1 + stepsToAckFrom bound (nextLabel l) < stepsToAckFrom bound l) :
    NearerAck s (s.callAwait d) := by
  refine ⟨rfl, rfl, .inr ⟨rfl, ?_⟩⟩
  subst hs
  rw [State.stepsToAck_of_seq rfl hl, State.stepsToAck_of_A1 rfl]
  exact hless _

/-- The return of a wait. -/
theorem NearerAck.waitReturned {s t : State} (hs : s.seq = .A1) (ht : t.seq = s.retAwait) (hret : s.retAwait ≠ .A1)
    (hschedule : t.schedule = s.schedule) (hreset : t.resetReq = s.resetReq) (hmode : t.mode = s.mode)
    (hparams : t.params = s.params) : NearerAck s t := by
  refine ⟨hschedule, hreset, .inr ⟨hmode, ?_⟩⟩
  rw [State.stepsToAck_of_A1 hs, State.stepsToAck_of_seq ht hret, hparams]
  omega

/-- A status read of a wait that goes on. -/
theorem NearerAck.pollAgain {s : State} (hs : s.seq = .A1) (hp : s.pollN < s.params.pollBound) :
    NearerAck s { s.readStatus with pollN := s.pollN + 1 } := by
  refine ⟨rfl, rfl, .inr ⟨rfl, ?_⟩⟩
  have hnext : ({ s.readStatus with pollN := s.pollN + 1 } : State).stepsToAck =
      s.params.pollBound - (s.pollN + 1) + 1 + stepsToAckFrom s.params.pollBound s.retAwait := if_pos hs
  rw [hnext, State.stepsToAck_of_A1 hs]
  omega

/-- R28, R143: every label of INIT and SEND_DEVICE_COMMAND but `S6` brings the acknowledgement or the end nearer. -/
theorem runLabel_nearerAck {s : State} (hc : Coherent s) (hm : s.mode = .init) (hS6 : s.seq ≠ .S6) :
    ∃ t, runLabel s = .next t ∧ NearerAck s t := by
  have hbusy : isQuiescent s.mode = false := by rw [hm]; rfl
  cases h : s.seq
  case I0 => exact ⟨_, runLabel_I0 h, .of_label h nofun rfl nofun rfl rfl rfl rfl fun _ => rfl⟩
  case I1a | I2a | I4a | I4c | S1 | S3 =>
    exact ⟨_, runLabel_awaitSend (by simp [h]), .callAwait h nofun _ fun _ => by
      simp only [nextLabel, stepsToAckFrom]; omega⟩
  case I2c | S5 =>
    exact ⟨_, runLabel_awaitRecv (by simp [h]), .callAwait h nofun _ fun _ => by
      simp only [nextLabel, stepsToAckFrom]; omega⟩
  case I1b => exact ⟨_, runLabel_I1b h, .of_label h nofun rfl nofun rfl rfl rfl rfl fun _ => rfl⟩
  case I2b => exact ⟨_, runLabel_I2b h, .of_label h nofun rfl nofun rfl rfl rfl rfl fun _ => rfl⟩
  case I2d => exact ⟨_, runLabel_I2d h, .of_label h nofun rfl nofun rfl rfl rfl rfl fun _ => rfl⟩
  case I3 => exact ⟨_, runLabel_I3 h, .of_label h nofun rfl nofun rfl rfl rfl rfl fun _ => rfl⟩
  case I4b => exact ⟨_, runLabel_I4b h, .of_label h nofun rfl nofun rfl rfl rfl rfl fun _ => rfl⟩
  case I4d => exact ⟨_, runLabel_I4d h, .of_label h nofun rfl nofun rfl rfl rfl rfl fun _ => rfl⟩
  case I5 => exact ⟨_, runLabel_I5 h, .of_label h nofun rfl nofun rfl rfl rfl rfl fun _ => rfl⟩
  case I6 => exact ⟨_, runLabel_I6 h, .of_label h nofun rfl nofun rfl rfl rfl rfl fun _ => rfl⟩
  case I7 => exact ⟨_, runLabel_I7 h, .of_label h nofun rfl nofun rfl rfl rfl rfl fun _ => rfl⟩
  case I8 => exact ⟨_, runLabel_I8 h, rfl, rfl, .inl rfl⟩
  case S2 => exact ⟨_, runLabel_S2 h, .of_label h nofun rfl nofun rfl rfl rfl rfl fun _ => rfl⟩
  case S4 => exact ⟨_, runLabel_S4 h, .of_label h nofun rfl nofun rfl rfl rfl rfl fun _ => rfl⟩
  case S6 => exact absurd h hS6
  case A1 =>
    have hret : s.retAwait ≠ .A1 := (hc.placed_retAwait h).ne_A1 hbusy
    by_cases hp : s.pollN = s.params.pollBound
    · exact ⟨_, runLabel_A1_exhausted h hp, .waitReturned h rfl hret rfl rfl rfl rfl⟩
    · cases hmet : waitMet s.dir s.statusAnswer
      · exact ⟨_, runLabel_A1_again h hp hmet, .pollAgain h (Nat.lt_of_le_of_ne (hc.polls hbusy h) hp)⟩
      · exact ⟨_, runLabel_A1_met h hp hmet, .waitReturned h rfl hret rfl rfl rfl rfl⟩
  case H1 | H2 | H3 | H4 | H5 | H6 | H7 =>
    exact absurd hm ((hc.placed_seq h (by decide)).ne_init (by decide))

/-- R143: within `n` steps the block is at `S6`, or INIT has ended. -/
theorem reaches_ack {n : Nat} {s : State} (hc : Coherent s) (hm : s.mode = .init) (hu : Undisturbed s)
    (hn : s.stepsToAck < n) :
    ∃ k t, k ≤ n ∧ runSteps k s = .next t ∧ (t.mode = .armed ∨ (t.mode = .init ∧ t.seq = .S6)) := by
  induction n generalizing s with
  | zero => exact absurd hn (Nat.not_lt_zero _)
  | succ n ih =>
    by_cases hS6 : s.seq = .S6
    · exact ⟨0, s, Nat.zero_le _, rfl, .inr ⟨hm, hS6⟩⟩
    obtain ⟨t, hrun, hnear⟩ := runLabel_nearerAck hc hm hS6
    have hstep : step s = .next t := (step_busy (by rw [hm]; rfl) hu.alone hu.noReset).trans hrun
    obtain harmed | ⟨hmode, hless⟩ := hnear.nearer
    · exact ⟨1, t, by omega, runSteps_succ hstep 0, .inl harmed⟩
    · have hu' : Undisturbed t := ⟨hnear.schedule.trans hu.alone, hnear.resetReq.trans hu.noReset⟩
      obtain ⟨k, u, hk, hrest, hend⟩ := ih (coherenceKept s t hc hstep) (hmode.trans hm) hu' (by omega)
      exact ⟨k + 1, u, by omega, (runSteps_succ hstep k).trans hrest, hend⟩

/-- Settles O34: the bound from any point of INIT is below the one claimed. -/
theorem initBlocksOnlyAtAck : Obligations.InitBlocksOnlyAtAck := by
  intro s hc hm hu
  have hbound := State.stepsToAck_le hc hm
  exact reaches_ack hc hm hu (by omega)

end Sys2Proof.Machine
end

section
/-! The cooperative run of INIT (R131, R142, program P1): every wait is met at its first read, and every command acknowledged at
once. -/

namespace Sys2Proof.Machine

open Sys2Proof.Config

/-! ## The states it passes through, and its records -/

/-- The state at `I1a`, Driver State zeroed (R132). -/
def State.zeroed (s : State) : State :=
  { s with cumulativeX := 0, cumulativeY := 0, bytesReceived := 0, packetBuffer := Memory.zeroed, seq := .I1a }

/-- The state at `I2a`, AUX_ENABLE written (R133). -/
def State.auxEnabled (s : State) (stat : List Byte) : State := s.zeroed.waitedAndWrote 0x00 stat .ctrl 0xA8

/-- The state at `I2c`, CFG_READ written (R134). -/
def State.cfgAsked (s : State) (stat : List Byte) : State :=
  (s.auxEnabled (0x00 :: stat)).waitedAndWrote 0x00 stat .ctrl 0x20

/-- The state at `I3`, the configuration byte `c` read (R134), from a state at `I2c`. -/
def State.cfgRead (s : State) (c : Byte) (stat data : List Byte) : State :=
  { s.waited .recv 0x01 stat with
    dataReg := c
    dataAnswers := data
    trace := (s.waited .recv 0x01 stat).trace ++ [.read s.params.dataPort c]
    cfg := c
    seq := .I3 }

/-- The state at `I4a`, bit 1 of the byte read forced (R135), from a state at `I2c`. -/
def State.cfgTaken (s : State) (c : Byte) (stat data : List Byte) : State :=
  { s.cfgRead c stat data with cfg := withAuxInterrupt c, seq := .I4a }

/-- The state at `I4c`, CFG_WRITE written (R136), from a state at `I2c`. -/
def State.cfgWriteSent (s : State) (c : Byte) (stat data : List Byte) : State :=
  (s.cfgTaken c (0x00 :: stat) data).waitedAndWrote 0x00 stat .ctrl 0x60

/-- The state at `I5`, the configuration byte written back (R136), from a state at `I2c`. -/
def State.cfgWritten (s : State) (c : Byte) (stat data : List Byte) : State :=
  (s.cfgWriteSent c (0x00 :: stat) data).waitedAndWrote 0x00 stat .data (withAuxInterrupt c)

/-- The records of INIT up to `I5`, with `c` for the configuration byte. -/
def configurationRecords (p : Params) (c : Byte) : List Obs :=
  [.read p.ctrlPort 0x00, .write p.ctrlPort 0xA8,
   .read p.ctrlPort 0x00, .write p.ctrlPort 0x20, .read p.ctrlPort 0x01, .read p.dataPort c,
   .read p.ctrlPort 0x00, .write p.ctrlPort 0x60, .read p.ctrlPort 0x00, .write p.dataPort (withAuxInterrupt c)]

/-- The state at `I5`, from a state at `I0`. -/
def State.configured (s : State) (c : Byte) (stat data : List Byte) : State :=
  { s with
    cumulativeX := 0
    cumulativeY := 0
    bytesReceived := 0
    packetBuffer := Memory.zeroed
    dir := .send
    pollN := 0
    retAwait := .I4d
    seq := .I5
    statusReg := 0x00
    statusAnswers := stat
    dataReg := c
    dataAnswers := data
    cfg := withAuxInterrupt c
    trace := s.trace ++ configurationRecords s.params c }

theorem State.cfgWritten_cfgAsked_eq_configured (s : State) (c : Byte) (stat data : List Byte) :
    (s.cfgAsked (0x01 :: 0x00 :: 0x00 :: stat)).cfgWritten c stat data = s.configured c stat data := by
  simp [State.configured, configurationRecords, State.cfgWritten, State.cfgWriteSent, State.cfgTaken, State.cfgRead,
    State.cfgAsked, State.auxEnabled, State.zeroed, State.waitedAndWrote, State.waited, State.portWrite, State.record,
    State.portAddr, State.goto, nextLabel]

/-- The state when SEND_DEVICE_COMMAND has returned. -/
def State.commandAcked (s : State) (c : Byte) (stat data : List Byte) : State :=
  { s.commandSent c 0x00 0x00 0x01 stat with
    seq := nextLabel s.seq
    dataReg := 0xFA
    dataAnswers := data
    trace := (s.commandSent c 0x00 0x00 0x01 stat).trace ++ [.read s.params.dataPort 0xFA] }

/-- The state in `ARMED`, the line enabled (R139, R140). -/
def State.initEnded (s : State) : State :=
  { (s.record (.enableIrq s.params.irqIndex s.params.irqTarget)).goto .I8 with mode := .armed }

/-- The records of SEND_DEVICE_COMMAND, from its call to its return. -/
def commandRecords (p : Params) (c : Byte) : List Obs :=
  [.read p.ctrlPort 0x00, .write p.ctrlPort 0xD4, .read p.ctrlPort 0x00, .write p.dataPort c, .read p.ctrlPort 0x01,
   .read p.dataPort 0xFA]

/-- The records of program P1, with `c` for its configuration byte. -/
def cooperativeRecords (p : Params) (c : Byte) : List Obs :=
  configurationRecords p c ++ commandRecords p 0xF6 ++ commandRecords p 0xF4 ++ [.enableIrq p.irqIndex p.irqTarget]

/-- The state in `ARMED`, from a state at `I0`. -/
def State.cooperated (s : State) (c : Byte) : State :=
  { s with
    mode := .armed
    cumulativeX := 0
    cumulativeY := 0
    bytesReceived := 0
    packetBuffer := Memory.zeroed
    cmd := 0xF4
    retSend := .I7
    dir := .recv
    pollN := 0
    retAwait := .S6
    seq := .I8
    statusReg := 0x01
    statusAnswers := []
    dataReg := 0xFA
    dataAnswers := []
    cfg := withAuxInterrupt c
    trace := s.trace ++ cooperativeRecords s.params c }

theorem State.initEnded_configured_eq_cooperated (s : State) (c : Byte) :
    (((s.configured c [0x00, 0x00, 0x01, 0x00, 0x00, 0x01] [0xFA, 0xFA]).commandAcked 0xF6 [0x00, 0x00, 0x01]
      [0xFA]).commandAcked 0xF4 [] []).initEnded = s.cooperated c := by
  simp [State.cooperated, cooperativeRecords, commandRecords, State.configured, State.commandAcked, State.commandSent,
    State.initEnded, State.record, State.goto, nextLabel]

/-! ## Its run -/

section
variable {s : State} {l : Label}

theorem BusyAt.awaitSend (h : BusyAt l s) (hl : l ∈ [Label.I1a, .I2a, .I4a, .I4c, .S1, .S3]) :
    runLabel s = .next (s.callAwait .send) :=
  runLabel_awaitSend (h.seq_eq ▸ hl)

theorem BusyAt.waitedAndWrote (h : BusyAt l s) (a v : Byte) (rest : List Byte) (p : Port) :
    BusyAt (nextLabel (nextLabel l)) (s.waitedAndWrote a rest p v) :=
  h.moved (congrArg (nextLabel <| nextLabel ·) h.seq_eq) rfl rfl rfl

/-- R132 to R134: from `I0` to `I2c`. -/
theorem runSteps_cfgAsked {stat : List Byte} (h : BusyAt .I0 s) (hbound : 0 < s.params.pollBound)
    (ha : s.statusAnswers = 0x00 :: 0x00 :: stat) :
    runSteps 7 s = .next (s.cfgAsked stat) ∧ BusyAt .I2c (s.cfgAsked stat) := by
  have hI1a : BusyAt .I1a s.zeroed := h.moved rfl rfl rfl rfl
  have hI2a : BusyAt .I2a (s.auxEnabled (0x00 :: stat)) := hI1a.waitedAndWrote ..
  refine ⟨?_, hI2a.waitedAndWrote ..⟩
  calc runSteps 7 s
    _ = runSteps 6 s.zeroed := runSteps_succ (h.step_eq.trans (runLabel_I0 h.seq_eq)) 6
    _ = runSteps 3 (s.auxEnabled (0x00 :: stat)) :=
      runSteps_trans (m := 3) (n := 3)
        (runSteps_waitedAndWrote hI1a (hI1a.awaitSend (by decide)) (runLabel_I1b rfl) hbound ha (by decide))
    _ = .next (s.cfgAsked stat) :=
      runSteps_waitedAndWrote hI2a (hI2a.awaitSend (by decide)) (runLabel_I2b rfl) hbound rfl (by decide)

/-- R134, R135: from `I2c` to `I4a`. -/
theorem runSteps_cfgTaken {c : Byte} {stat data : List Byte} (h : BusyAt .I2c s) (hbound : 0 < s.params.pollBound)
    (ha : s.statusAnswers = 0x01 :: stat) (hd : s.dataAnswers = c :: data) :
    runSteps 4 s = .next (s.cfgTaken c stat data) ∧ BusyAt .I4a (s.cfgTaken c stat data) := by
  have hI2d : BusyAt .I2d (s.waited .recv 0x01 stat) := h.moved (congrArg nextLabel h.seq_eq) rfl rfl rfl
  have hI3 : BusyAt .I3 (s.cfgRead c stat data) := hI2d.moved rfl rfl rfl rfl
  refine ⟨?_, hI3.moved rfl rfl rfl rfl⟩
  calc runSteps 4 s
    _ = runSteps 2 (s.waited .recv 0x01 stat) :=
      runSteps_trans (m := 2) (n := 2)
        (runSteps_waited h (runLabel_awaitRecv (by simp [h.seq_eq])) hbound ha (by decide))
    _ = runSteps 1 (s.cfgRead c stat data) :=
      runSteps_succ (hI2d.step_eq.trans (runLabel_I2d_scripted hI2d.seq_eq hd)) 1
    _ = .next (s.cfgTaken c stat data) := runSteps_succ (hI3.step_eq.trans (runLabel_I3 rfl)) 0

/-- R136: from `I4a` to `I5`. -/
theorem runSteps_cfgWritten {c : Byte} {stat data : List Byte}
    (h : BusyAt .I4a (s.cfgTaken c (0x00 :: 0x00 :: stat) data)) (hbound : 0 < s.params.pollBound) :
    runSteps 6 (s.cfgTaken c (0x00 :: 0x00 :: stat) data) = .next (s.cfgWritten c stat data) ∧
      BusyAt .I5 (s.cfgWritten c stat data) := by
  have hI4c : BusyAt .I4c (s.cfgWriteSent c (0x00 :: stat) data) := h.waitedAndWrote ..
  refine ⟨?_, hI4c.waitedAndWrote ..⟩
  calc runSteps 6 (s.cfgTaken c (0x00 :: 0x00 :: stat) data)
    _ = runSteps 3 (s.cfgWriteSent c (0x00 :: stat) data) :=
      runSteps_trans (m := 3) (n := 3)
        (runSteps_waitedAndWrote h (h.awaitSend (by decide)) (runLabel_I4b rfl) hbound rfl (by decide))
    _ = .next (s.cfgWritten c stat data) :=
      runSteps_waitedAndWrote hI4c (hI4c.awaitSend (by decide)) (runLabel_I4d rfl) hbound rfl (by decide)

/-- R132 to R136: from `I0` to `I5`. -/
theorem runSteps_configured {c : Byte} {stat data : List Byte} (h : BusyAt .I0 s) (hbound : 0 < s.params.pollBound)
    (ha : s.statusAnswers = 0x00 :: 0x00 :: 0x01 :: 0x00 :: 0x00 :: stat) (hd : s.dataAnswers = c :: data) :
    runSteps 17 s = .next (s.configured c stat data) := by
  obtain ⟨hasked, hI2c⟩ := runSteps_cfgAsked h hbound ha
  obtain ⟨htaken, hI4a⟩ := runSteps_cfgTaken hI2c hbound rfl hd
  obtain ⟨hwritten, -⟩ := runSteps_cfgWritten hI4a hbound
  calc runSteps 17 s
    _ = runSteps 10 (s.cfgAsked (0x01 :: 0x00 :: 0x00 :: stat)) := runSteps_trans (m := 7) (n := 10) hasked
    _ = runSteps 6 ((s.cfgAsked (0x01 :: 0x00 :: 0x00 :: stat)).cfgTaken c (0x00 :: 0x00 :: stat) data) :=
      runSteps_trans (m := 4) (n := 6) htaken
    _ = .next (s.configured c stat data) := by rw [hwritten, State.cfgWritten_cfgAsked_eq_configured]

/-- R110, R137, R138: SEND_DEVICE_COMMAND from its call to its return. -/
theorem runSteps_commandAcked {c : Byte} {stat data : List Byte} (h : BusyAt l s)
    (hcall : runLabel s = .next (s.callSend c)) (hbound : 0 < s.params.pollBound)
    (ha : s.statusAnswers = 0x00 :: 0x00 :: 0x01 :: stat) (hd : s.dataAnswers = 0xFA :: data) :
    runSteps 10 s = .next (s.commandAcked c stat data) ∧ BusyAt (nextLabel l) (s.commandAcked c stat data) := by
  have hS6 : BusyAt .S6 (s.commandSent c 0x00 0x00 0x01 stat) := h.moved rfl rfl rfl rfl
  refine ⟨?_, h.moved (congrArg nextLabel h.seq_eq) rfl rfl rfl⟩
  calc runSteps 10 s
    _ = runSteps 1 (s.commandSent c 0x00 0x00 0x01 stat) :=
      runSteps_trans (m := 9) (n := 1)
        (runSteps_commandSent h hcall hbound (by decide) (by decide) (by decide) ha)
    _ = .next (s.commandAcked c stat data) := runSteps_succ (step_S6 hS6 hd) 0

/-- R139, R140: from `I7` to `ARMED`. -/
theorem runSteps_initEnded (h : BusyAt .I7 s) : runSteps 2 s = .next s.initEnded := by
  have hI8 : BusyAt .I8 ((s.record (.enableIrq s.params.irqIndex s.params.irqTarget)).goto .I8) :=
    h.moved rfl rfl rfl rfl
  rw [runSteps_succ (h.step_eq.trans (runLabel_I7 h.seq_eq)), runSteps_succ (hI8.step_eq.trans (runLabel_I8 rfl))]
  rfl

/-- R131, R142: from `I0` to `ARMED`, with the answers of `INIT_OK` (R87). -/
theorem runSteps_cooperated {c : Byte} (h : BusyAt .I0 s) (hbound : 0 < s.params.pollBound)
    (ha : s.statusAnswers = (Asked.initOk c).status) (hd : s.dataAnswers = (Asked.initOk c).data) :
    runSteps 39 s = .next (s.cooperated c) := by
  have hconfigured := runSteps_configured h hbound ha hd
  have hI5 : BusyAt .I5 (s.configured c [0x00, 0x00, 0x01, 0x00, 0x00, 0x01] [0xFA, 0xFA]) :=
    h.moved rfl rfl rfl rfl
  obtain ⟨hfirst, hI6⟩ := runSteps_commandAcked hI5 (runLabel_I5 rfl) hbound rfl rfl
  obtain ⟨hsecond, hI7⟩ := runSteps_commandAcked hI6 (runLabel_I6 rfl) hbound rfl rfl
  rw [runSteps_trans (m := 17) (n := 22) hconfigured, runSteps_trans (m := 10) (n := 12) hfirst,
    runSteps_trans (m := 10) (n := 2) hsecond, runSteps_initEnded hI7, State.initEnded_configured_eq_cooperated]

end

/-- R52, R141: program P1 makes exactly INIT's accesses. -/
theorem Initialised.of_cooperativeRecords {before : List Obs} {c : Byte} {t : State} (hm : t.mode = .armed)
    (hp : t.params.wf = true) (htrace : t.trace = before ++ cooperativeRecords t.params c) : Initialised before t := by
  have hports : t.params.ctrlPort ≠ t.params.dataPort := of_decide_eq_true hp
  have hreads : readsAt t.params.dataPort (cooperativeRecords t.params c) = [c, 0xFA, 0xFA] := by
    simp [cooperativeRecords, configurationRecords, commandRecords, readsAt, hports]
  exact ⟨hm, _, c, [], [], htrace, rfl, by simp, by simp, hreads, rfl, rfl⟩

/-- Settles O35: the acceptance, and then the run from `I0`. -/
theorem cooperativeInitRun : Obligations.CooperativeInitRun := by
  intro s c hq hu hi hirq hbound hp ha hd
  let s₀ : State := { s with mode := .init, seq := .I0, initReq := false }
  have haccept : step s = .next s₀ := by
    rw [step, turn, hu.alone]
    exact (blockTurn_initReq hq hu.noReset hi hirq).trans (exec_init_accepted hq)
  have hI0 : BusyAt .I0 s₀ := ⟨rfl, ⟨hu.alone, hu.noReset⟩, rfl⟩
  exact ⟨s₀.cooperated c, (runSteps_succ haccept 39).trans (runSteps_cooperated hI0 hbound ha hd), rfl, rfl, rfl, rfl,
    Memory.read_zeroed, rfl, rfl, .of_cooperativeRecords rfl hp rfl, rfl⟩

end Sys2Proof.Machine
end

section
/-! HANDLE_IRQ's acceptance (R151, R199) and the steps of its labels `H2` to `H6` (R154 to R158). -/

namespace Sys2Proof.Machine

/-! ## Acceptance -/

/-- Settles O5: `ARMED` is the one mode that takes the notification. -/
theorem irqAcceptedWhenArmed : Obligations.IrqAcceptedWhenArmed :=
  fun _ => ⟨fun hm => if_pos hm, fun hm => if_neg hm⟩

/-- R202: an armed block that only a notification is asked of takes it. -/
theorem step_irqAccepted {s : State} (hm : s.mode = .armed) (hu : Undisturbed s) (hq : s.irqReq = true)
    (hi : s.initReq = false) : step s = .next s.enterService := by
  have haccept : step s = exec .handleIrq s := by
    simp [step, turn, hu.alone, blockTurn, hu.noReset, hm, acceptArmed, hq, hi]
  exact haccept.trans ((irqAcceptedWhenArmed s).1 hm)

/-! ## The count and its phase -/

/-- R23: the phase is the count modulo 3. -/
theorem phaseOf_eq_iff {m n : Nat} : phaseOf m = phaseOf n ↔ m % 3 = n % 3 := Fin.ext_iff

/-- R157: one more byte advances the phase. -/
theorem phaseOf_succ (n : Nat) : phaseOf (n + 1) = phaseOf n + 1 :=
  Fin.ext (by simp [phaseOf, Fin.val_add])

/-- R158: a packet is complete at a multiple of 3. -/
theorem packetComplete_iff {n : Nat} : packetComplete n = true ↔ n % 3 = 0 := beq_iff_eq

/-- R158: no packet is complete elsewhere. -/
theorem packetComplete_eq_false_iff {n : Nat} : packetComplete n = false ↔ n % 3 ≠ 0 := beq_eq_false_iff_ne

/-- R233: the modulus of a finite counter is no multiple of 3. -/
theorem two_pow_mod_three_ne_zero (w : Nat) : 2 ^ w % 3 ≠ 0 := fun h =>
  absurd (Nat.prime_three.dvd_of_dvd_pow (Nat.dvd_of_mod_eq_zero h)) (by decide)

/-! ## The steps -/

/-- An undisturbed block in `SERVICE`, at its label. -/
theorem BusyAt.of_service {l : Label} {s : State} (hm : s.mode = .service) (hu : Undisturbed s) (hs : s.seq = l) :
    BusyAt l s :=
  ⟨by rw [hm]; rfl, hu, hs⟩

/-- Settles O36: the write of the phase's slot. -/
theorem storeByteResult : Obligations.StoreByteResult :=
  fun _ hb => ⟨_, rfl, rfl, Memory.wf_write hb, Memory.read_write_same hb, fun _ => Memory.read_write_other⟩

/-- The state after the fresh status read of `H2` answers `b`, with `rest` still to answer (R154). -/
def State.tested (s : State) (b : Byte) (rest : List Byte) : State :=
  { s with
    statusReg := b
    statusAnswers := rest
    trace := s.trace ++ [.read s.params.ctrlPort b]
    seq := if b.getLsbD 0 = true then .H3 else .H7 }

/-- R154: the fresh status read decides between the data read and the end. -/
theorem step_H2 {s : State} {b : Byte} {rest : List Byte} (h : BusyAt .H2 s) (ha : s.statusAnswers = b :: rest) :
    step s = .next (s.tested b rest) := by
  rw [h.step_eq, runLabel_H2 h.seq_eq, State.statusAnswer_scripted ha, State.readStatus_scripted ha]
  rfl

/-- The state after the data read of `H3` answers `b`, with `rest` still to answer (R155). -/
def State.taken (s : State) (b : Byte) (rest : List Byte) : State :=
  { s with
    dataReg := b
    dataAnswers := rest
    trace := s.trace ++ [.read s.params.dataPort b]
    seq := .H4 }

/-- R155: one data read. -/
theorem step_H3 {s : State} {b : Byte} {rest : List Byte} (h : BusyAt .H3 s) (ha : s.dataAnswers = b :: rest) :
    step s = .next (s.taken b rest) := by
  rw [h.step_eq, runLabel_H3 h.seq_eq, State.readData_scripted ha]
  rfl

/-- R200: the return. -/
theorem step_H7 {s : State} (h : BusyAt .H7 s) : step s = .next s.returnToArmed :=
  h.step_eq.trans (runLabel_H7 h.seq_eq)

/-- Settles O37, from the labels `H2` and `H3`. -/
theorem spuriousTestStep : Obligations.SpuriousTestStep :=
  fun _ hm hu => ⟨fun _ _ hs => step_H2 (.of_service hm hu hs), fun _ _ hs => step_H3 (.of_service hm hu hs)⟩

/-- Settles O38: the count after one more byte, by `CNT_W`. -/
theorem countStep : Obligations.CountStep := by
  intro s hm hu hs
  refine ⟨_, (BusyAt.of_service hm hu hs).step_eq.trans (runLabel_H5 hs), rfl, fun hw => ?_, fun w hw => ?_⟩
  · have hcount : nextCount s.params.cntW s.bytesReceived = s.bytesReceived + 1 := by rw [hw]; rfl
    exact ⟨hcount, (congrArg phaseOf hcount).trans (phaseOf_succ s.bytesReceived)⟩
  · exact ⟨by rw [hw]; rfl, two_pow_mod_three_ne_zero w⟩

/-- Settles O39, by whether the count is a multiple of 3. -/
theorem packetCompletionStep : Obligations.PacketCompletionStep := by
  intro s hm hu hs
  rw [(BusyAt.of_service hm hu hs).step_eq]
  exact ⟨fun hc => runLabel_H6_partial hs (packetComplete_eq_false_iff.2 hc),
    fun hc => runLabel_H6_complete hs (packetComplete_iff.2 hc)⟩

end Sys2Proof.Machine
end

section
/-! Framing (R159, R160): the events, the count and the slots against the bytes consumed, at each label of HANDLE_IRQ;
every step in `ARMED` and `SERVICE` keeps them. -/

namespace Sys2Proof.Machine

/-! ## The packets of a byte stream -/

/-- Whole packets, and then the packets of the rest. -/
theorem packetsOf_append (cs : List Byte) : ∀ {bs : List Byte}, bs.length % 3 = 0 →
    packetsOf (bs ++ cs) = packetsOf bs ++ packetsOf cs
  | [], _ => rfl
  | [_], h | [_, _], h => absurd h (by simp)
  | f :: x :: y :: rest, h => by
    have hrest : rest.length % 3 = 0 := by simpa [Nat.add_assoc] using h
    simp only [List.cons_append, packetsOf, packetsOf_append cs hrest]

/-- R159: a byte that completes no packet adds none. -/
theorem packetsOf_concat_partial (b : Byte) : ∀ {bs : List Byte}, (bs.length + 1) % 3 ≠ 0 →
    packetsOf (bs ++ [b]) = packetsOf bs
  | [], _ | [_], _ => rfl
  | [_, _], h => absurd (by simp) h
  | f :: x :: y :: rest, h => by
    have hrest : (rest.length + 1) % 3 ≠ 0 := by simp only [List.length_cons] at h; omega
    simp only [List.cons_append, packetsOf, packetsOf_concat_partial b hrest]

/-- R159: the third byte completes the packet of the last three. -/
theorem packetsOf_concat_complete {bs : List Byte} (f x y : Byte) (h : bs.length % 3 = 0) :
    packetsOf (bs ++ [f, x, y]) = packetsOf (bs ++ [f, x]) ++ [eventOf f x y] := by
  simp [packetsOf_append _ h, packetsOf]

/-- R160: three bytes make one packet. -/
theorem length_packetsOf : ∀ bs : List Byte, (packetsOf bs).length = bs.length / 3
  | [] => rfl
  | [_] | [_, _] => by simp [packetsOf]
  | f :: x :: y :: rest => by simp [packetsOf, length_packetsOf rest, Nat.add_assoc]

/-! ## The slots -/

/-- The slots hold the last three bytes of a stream, each at the phase of its place (R156, R160). -/
def Memory.Holds (m : Memory) (bs : List Byte) : Prop :=
  ∀ k v, bs[k]? = some v → bs.length ≤ k + 3 → m.read (phaseOf k) = v

theorem Memory.holds_take_iff {m : Memory} {bs : List Byte} {j : Nat} (hj : j ≤ bs.length) :
    m.Holds (bs.take j) ↔ ∀ k v, bs[k]? = some v → k < j → j ≤ k + 3 → m.read (phaseOf k) = v := by
  simp only [Memory.Holds, List.getElem?_take, List.length_take, Nat.min_eq_left hj, Option.ite_none_right_eq_some]
  exact ⟨fun h k v hk hlt => h k v ⟨hlt, hk⟩, fun h k v ⟨hlt, hk⟩ => h k v hk hlt⟩

/-- R156: a byte stored at its phase replaces the one three places before it. -/
theorem Memory.Holds.write {m : Memory} {bs : List Byte} {n : Nat} (h : m.Holds bs) (hm : m.wf = true)
    (hn : n % 3 = bs.length % 3) (v : Byte) : (m.write (phaseOf n) v).Holds (bs ++ [v]) := by
  intro k w hk hlast
  rw [phaseOf_eq_iff.2 hn]
  simp only [List.length_append, List.length_singleton] at hlast
  rcases Nat.lt_trichotomy k bs.length with hlt | rfl | hgt
  · have hne : phaseOf k ≠ phaseOf bs.length := mt phaseOf_eq_iff.1 (by omega)
    rw [Memory.read_write_other hne]
    exact h k w (by rwa [List.getElem?_append_left hlt] at hk) (by omega)
  · rw [Memory.read_write_same hm]
    simpa using hk
  · simp [hgt] at hk

/-- R160: after whole packets the slots are the last one's three bytes. -/
theorem Memory.Holds.packet {m : Memory} {bs : List Byte} {f x y : Byte} (h : m.Holds (bs ++ [f, x, y]))
    (hbs : bs.length % 3 = 0) : m.read 0 = f ∧ m.read 1 = x ∧ m.read 2 = y := by
  have hslot : ∀ i : Slot, ∀ v, [f, x, y][i.val]? = some v → m.read i = v := by
    intro i v hv
    have hphase : phaseOf (bs.length + i.val) = i := Fin.ext (by simp [phaseOf]; omega)
    rw [← hphase]
    exact h _ v (by simpa using hv) (by simp)
  exact ⟨hslot 0 f rfl, hslot 1 x rfl, hslot 2 y rfl⟩

/-! ## Framing, by the label reached -/

/-- The labels at which a byte read is still to be stored, counted or decoded (R156 to R158). -/
def holdingLabels : List Label := [.H4, .H5, .H6]

/-- How the count, the slots `m`, the register `B` (here `b`) and the events follow the bytes consumed, at each label:
the newest byte is held until it is stored at `H4`, counted at `H5` and decoded at `H6`. -/
inductive Follows (m : Memory) (b : Byte) : Label → Nat → List Byte → List Event → Prop where
  | settled {l : Label} {q : Nat} {bs : List Byte} (hl : l ∉ holdingLabels) (hm : m.Holds bs) :
      Follows m b l (3 * q + bs.length) bs (packetsOf bs)
  | unstored {q : Nat} {bs : List Byte} (hm : m.Holds bs) :
      Follows m b .H4 (3 * q + bs.length) (bs ++ [b]) (packetsOf bs)
  | uncounted {q : Nat} {v : Byte} {bs : List Byte} (hm : m.Holds (bs ++ [v])) :
      Follows m b .H5 (3 * q + bs.length) (bs ++ [v]) (packetsOf bs)
  | undecoded {q : Nat} {v : Byte} {bs : List Byte} (hm : m.Holds (bs ++ [v])) :
      Follows m b .H6 (3 * q + bs.length + 1) (bs ++ [v]) (packetsOf bs)

/-- One where a byte held at `l` waits for a step at one of `waiting`. -/
def lag (waiting : List Label) (l : Label) : Nat := if l ∈ waiting then 1 else 0

theorem lag_of_notMem {waiting : List Label} {l : Label} (h : l ∉ waiting) : lag waiting l = 0 := if_neg h

/-- `Follows`, with the byte held counted as `Framed` counts it. -/
theorem follows_iff {m : Memory} {b : Byte} {l : Label} {n : Nat} {bs : List Byte} {es : List Event} :
    Follows m b l n bs es ↔
      lag holdingLabels l ≤ bs.length ∧ (∃ q, n + lag [.H4, .H5] l = 3 * q + bs.length) ∧
      es = packetsOf (bs.take (bs.length - lag holdingLabels l)) ∧ m.Holds (bs.take (bs.length - lag [.H4] l)) ∧
      (lag [.H4] l = 1 → bs.getLast? = some b) := by
  constructor
  · rintro (@⟨_, q, bs, hl, hm⟩ | @⟨q, bs, hm⟩ | @⟨q, v, bs, hm⟩ | @⟨q, v, bs, hm⟩)
    · obtain ⟨h4, h45⟩ : l ∉ [Label.H4] ∧ l ∉ [Label.H4, .H5] := by simp_all [holdingLabels]
      simp [lag_of_notMem, *]
    all_goals exact ⟨by simp [lag, holdingLabels], ⟨q, by simp [lag, Nat.add_assoc]⟩,
      by simp [lag, holdingLabels], by simpa [lag, List.take_of_length_le] using hm, by simp [lag]⟩
  · rintro ⟨hheld, ⟨q, hcount⟩, rfl, hm, hlast⟩
    by_cases hl : l ∈ holdingLabels
    · have hne : bs ≠ [] := by rintro rfl; simp [lag, hl] at hheld
      obtain ⟨bs, v, rfl⟩ := (List.eq_nil_or_concat' bs).resolve_left hne
      have hdecoded : (bs ++ [v]).take ((bs ++ [v]).length - lag holdingLabels l) = bs := by simp [lag, hl]
      rw [hdecoded]
      simp only [holdingLabels, List.mem_cons, List.not_mem_nil, or_false] at hl
      rcases hl with rfl | rfl | rfl
      · obtain rfl : v = b := by simpa [lag] using hlast
        obtain rfl : n = 3 * q + bs.length := by simpa [lag, ← Nat.add_assoc] using hcount
        exact .unstored (by simpa [lag] using hm)
      · obtain rfl : n = 3 * q + bs.length := by simpa [lag, ← Nat.add_assoc] using hcount
        exact .uncounted (by simpa [lag, List.take_of_length_le] using hm)
      · obtain rfl : n = 3 * q + bs.length + 1 := by simpa [lag, ← Nat.add_assoc] using hcount
        exact .undecoded (by simpa [lag, List.take_of_length_le] using hm)
    · obtain ⟨h4, h45⟩ : l ∉ [Label.H4] ∧ l ∉ [Label.H4, .H5] := by simp_all [holdingLabels]
      simp only [lag_of_notMem h4, lag_of_notMem h45, lag_of_notMem hl, Nat.add_zero, Nat.sub_zero,
        List.take_length] at hcount hm ⊢
      exact hcount ▸ .settled hl hm

/-- The handler's label; outside an invocation, its last. -/
def State.stage (s : State) : Label := if s.mode = .service then s.seq else .H7

/-- `Follows` for a state's registers, and the records `since` framing began. -/
def State.Frames (s : State) (since : List Obs) : Prop :=
  Follows s.packetBuffer s.dataReg s.stage s.bytesReceived (readsAt s.params.dataPort since) (eventsOf since)

theorem State.frames_iff {s : State} {since : List Obs} : s.Frames since ↔
    ∃ bs, readsAt s.params.dataPort since = bs ∧
      s.undecoded ≤ bs.length ∧
      (∃ q, s.bytesReceived + s.uncounted = 3 * q + bs.length) ∧
      eventsOf since = packetsOf (bs.take (bs.length - s.undecoded)) ∧
      (∀ k b, bs[k]? = some b → k < bs.length - s.unstored → bs.length - s.unstored ≤ k + 3 →
        s.packetBuffer.read (phaseOf k) = b) ∧
      (s.unstored = 1 → bs.getLast? = some s.dataReg) := by
  have hunstored : s.unstored = lag [.H4] s.stage := by
    by_cases hm : s.mode = .service <;> simp [State.unstored, State.stage, lag, hm]
  have huncounted : s.uncounted = lag [.H4, .H5] s.stage := by
    by_cases hm : s.mode = .service <;> simp [State.uncounted, State.stage, lag, hm]
  have hundecoded : s.undecoded = lag holdingLabels s.stage := by
    by_cases hm : s.mode = .service <;> simp [State.undecoded, State.stage, lag, holdingLabels, hm]
  rw [hunstored, huncounted, hundecoded, State.Frames, follows_iff]
  simp only [exists_eq_left', Memory.holds_take_iff (Nat.sub_le _ _)]

/-- R159: framing, by the label reached. -/
theorem framed_iff {before : List Obs} {s : State} : Framed before s ↔
    (s.mode = .armed ∨ s.mode = .service) ∧ s.params.cntW = none ∧
      ∃ since, s.trace = before ++ since ∧ s.Frames since := by
  simp only [State.frames_iff]
  exact ⟨fun h => ⟨h.running, h.counts, h.taken⟩, fun ⟨hrun, hcnt, htaken⟩ => ⟨hrun, hcnt, htaken⟩⟩

/-! ## Every step keeps it -/

section
variable {m : Memory} {b : Byte} {l : Label} {n : Nat} {bs : List Byte} {es : List Event}

/-- With no byte held, the label and `B` do not matter. -/
theorem Follows.quiet {b' : Byte} {l' : Label} (h : Follows m b l n bs es) (hl : l ∉ holdingLabels)
    (hl' : l' ∉ holdingLabels) : Follows m b' l' n bs es := by
  cases h with
  | settled _ hm => exact .settled hl' hm
  | _ => exact absurd (by decide) hl

/-- R160: with no byte held, the events are all the packets, the phase is that of the bytes, and the slots hold the last
of them. -/
theorem Follows.none_held (h : Follows m b l n bs es) (hl : l ∉ holdingLabels) :
    es = packetsOf bs ∧ n % 3 = bs.length % 3 ∧ m.Holds bs := by
  cases h with
  | settled _ hm => exact ⟨rfl, Nat.mul_add_mod .., hm⟩
  | _ => exact absurd (by decide) hl

/-- R155: the byte read at `H3` is held. -/
theorem Follows.read (h : Follows m b .H3 n bs es) (b' : Byte) : Follows m b' .H4 n (bs ++ [b']) es := by
  cases h with
  | settled _ hm => exact .unstored hm

/-- R156: the byte held is stored at its phase. -/
theorem Follows.store (h : Follows m b .H4 n bs es) (hwf : m.wf = true) :
    Follows (m.write (phaseOf n) b) b .H5 n bs es := by
  cases h with
  | settled hl => exact absurd (by decide) hl
  | unstored hm => exact .uncounted (hm.write hwf (Nat.mul_add_mod ..) b)

/-- R157: the byte stored is counted. -/
theorem Follows.count (h : Follows m b .H5 n bs es) : Follows m b .H6 (n + 1) bs es := by
  cases h with
  | settled hl => exact absurd (by decide) hl
  | uncounted hm => exact .undecoded hm

/-- R158: inside a packet the byte counted is done with. -/
theorem Follows.keepPartial (h : Follows m b .H6 n bs es) (hn : n % 3 ≠ 0) : Follows m b .H7 n bs es := by
  cases h with
  | settled hl => exact absurd (by decide) hl
  | @undecoded q v bs hm =>
    have hpartial := packetsOf_concat_partial (bs := bs) v (by omega)
    have hcount : 3 * q + bs.length + 1 = 3 * q + (bs ++ [v]).length := by simp [Nat.add_assoc]
    rw [← hpartial, hcount]
    exact .settled (by decide) hm

/-- R158: at a multiple of 3 the slots are the bytes of a packet, and its event is the next. -/
theorem Follows.complete (h : Follows m b .H6 n bs es) (hn : n % 3 = 0) :
    Follows m b .H7 n bs (es ++ [eventOf (m.read 0) (m.read 1) (m.read 2)]) := by
  cases h with
  | settled hl => exact absurd (by decide) hl
  | @undecoded q y bs hm =>
    obtain ⟨pre, f, x, rfl⟩ : ∃ pre f x, bs = pre ++ [f, x] := by
      obtain ⟨f, x, hfx⟩ := List.length_eq_two.1 (by simp; omega : (bs.drop (bs.length - 2)).length = 2)
      exact ⟨_, f, x, hfx ▸ (List.take_append_drop (bs.length - 2) bs).symm⟩
    have hpre : pre.length % 3 = 0 := by simp at hn; omega
    have hcount : 3 * q + (pre ++ [f, x]).length + 1 = 3 * q + (pre ++ [f, x, y]).length := by simp [Nat.add_assoc]
    rw [List.append_assoc] at hm ⊢
    obtain ⟨rfl, rfl, rfl⟩ := hm.packet hpre
    rw [← packetsOf_concat_complete _ _ _ hpre, hcount]
    exact .settled (by decide) hm

end

section
variable {before new : List Obs} {s t : State} {l l' : Label}

theorem State.stage_of_service (hm : s.mode = .service) (hs : s.seq = l) : s.stage = l := (if_pos hm).trans hs

theorem State.stage_of_armed (hm : s.mode = .armed) : s.stage = .H7 := if_neg (by rw [hm]; decide)

/-- Framing goes on from the label `l` to `l'`, the block putting out `new`. -/
theorem Framed.after (h : Framed before s) (hs : s.stage = l) (ht : t.stage = l')
    (hrun : t.mode = .armed ∨ t.mode = .service) (hparams : t.params = s.params) (htrace : t.trace = s.trace ++ new)
    (hnext : ∀ bs es, Follows s.packetBuffer s.dataReg l s.bytesReceived bs es →
      Follows t.packetBuffer t.dataReg l' t.bytesReceived (bs ++ readsAt s.params.dataPort new)
        (es ++ eventsOf new)) : Framed before t := by
  subst hs ht
  obtain ⟨-, hcnt, since, hsince, hframes⟩ := framed_iff.1 h
  refine framed_iff.2 ⟨hrun, hparams ▸ hcnt, since ++ new, by rw [htrace, hsince, List.append_assoc], ?_⟩
  rw [State.Frames, readsAt_append, eventsOf_append, hparams]
  exact hnext _ _ hframes

/-- Framing goes on where no byte is held before or after, and the buffer, the count, the data reads and the events
stay. -/
theorem Framed.quiet (h : Framed before s) (hs : s.stage = l) (ht : t.stage = l')
    (hrun : t.mode = .armed ∨ t.mode = .service) (hparams : t.params = s.params) (htrace : t.trace = s.trace ++ new)
    (hl : l ∉ holdingLabels) (hl' : l' ∉ holdingLabels) (hbuffer : t.packetBuffer = s.packetBuffer)
    (hcount : t.bytesReceived = s.bytesReceived) (hreads : readsAt s.params.dataPort new = [])
    (hevents : eventsOf new = []) : Framed before t :=
  h.after hs ht hrun hparams htrace fun bs es hfollows => by
    rw [hbuffer, hcount, hreads, hevents, List.append_nil, List.append_nil]
    exact hfollows.quiet hl hl'

/-- The moves to come and the request lines are no part of framing. -/
theorem Framed.of_lines (h : Framed before s) (schedule : List Move) (r i q : Bool) :
    Framed before { s with schedule := schedule, resetReq := r, initReq := i, irqReq := q } :=
  ⟨h.running, h.counts, h.taken⟩

/-- The choice between two requests is no part of framing. -/
theorem Framed.afterChoice (h : Framed before s) : Framed before s.afterChoice :=
  ⟨h.running, h.counts, h.taken⟩

/-- R199: an accepted notification. -/
theorem Framed.enterService (h : Framed before s) (hm : s.mode = .armed) : Framed before s.enterService :=
  h.quiet (l' := .H1) (State.stage_of_armed hm) (State.stage_of_service rfl rfl) (.inr rfl) rfl
    (List.append_nil _).symm (by decide) (by decide) rfl rfl rfl rfl

/-- R52: a status read is no data read. -/
theorem readsAt_dataPort_statusRead (hp : s.params.wf = true) (v : Byte) :
    readsAt s.params.dataPort [.read (s.portAddr .ctrl) v] = [] :=
  if_neg (of_decide_eq_true hp)

/-- R28: the handler's one wait resumes at `H2`. -/
theorem Coherent.retAwait_eq_H2 (hc : Coherent s) (hm : s.mode = .service) (hs : s.seq = .A1) : s.retAwait = .H2 := by
  have honly : ∀ l ∈ handlerLabels, waitBefore l ≠ none → l = .H2 := by decide
  have hwait := hc.resumes (by rw [hm]; rfl) hs
  exact honly _ ((hc.placed_retAwait hs).inService hm) (by simp [hwait])

/-- R28, R159: every label of HANDLE_IRQ keeps framing. -/
theorem runLabel_framed (hc : Coherent s) (h : Framed before s) (hm : s.mode = .service) :
    ∃ t, runLabel s = .next t ∧ Framed before t := by
  obtain ⟨l, hs⟩ : ∃ l, s.seq = l := ⟨_, rfl⟩
  have hstage : s.stage = l := State.stage_of_service hm hs
  cases l
  case H1 =>
    exact ⟨_, runLabel_awaitRecv (by simp [hs]), h.quiet (l' := .A1) hstage (State.stage_of_service hm rfl)
      (.inr hm) rfl (List.append_nil _).symm (by decide) (by decide) rfl rfl rfl rfl⟩
  case A1 =>
    have hret := hc.retAwait_eq_H2 hm hs
    by_cases hp : s.pollN = s.params.pollBound
    · exact ⟨_, runLabel_A1_exhausted hs hp, h.quiet hstage (State.stage_of_service hm hret)
        (.inr hm) rfl (List.append_nil _).symm (by decide) (by decide) rfl rfl rfl rfl⟩
    · cases hmet : waitMet s.dir s.statusAnswer
      · exact ⟨_, runLabel_A1_again hs hp hmet, h.quiet hstage (State.stage_of_service hm hs)
          (.inr hm) rfl rfl (by decide) (by decide) rfl rfl (readsAt_dataPort_statusRead hc.ports _) rfl⟩
      · exact ⟨_, runLabel_A1_met hs hp hmet, h.quiet hstage (State.stage_of_service hm hret)
          (.inr hm) rfl rfl (by decide) (by decide) rfl rfl (readsAt_dataPort_statusRead hc.ports _) rfl⟩
  case H2 =>
    have hnext : ∀ full : Bool, (if full then Label.H3 else .H7) ∉ holdingLabels := by decide
    exact ⟨_, runLabel_H2 hs, h.quiet hstage (State.stage_of_service hm rfl) (.inr hm) rfl rfl
      (by decide) (hnext _) rfl rfl (readsAt_dataPort_statusRead hc.ports _) rfl⟩
  case H3 =>
    have hreads : readsAt s.params.dataPort [.read (s.portAddr .data) s.dataAnswer] = [s.dataAnswer] := if_pos rfl
    refine ⟨_, runLabel_H3 hs, h.after hstage (State.stage_of_service hm rfl) (.inr hm) rfl rfl
      fun bs es hfollows => ?_⟩
    rw [hreads]
    simpa [eventsOf] using hfollows.read s.dataAnswer
  case H4 =>
    exact ⟨_, runLabel_H4 hs, h.after hstage (State.stage_of_service hm rfl) (.inr hm) rfl
      (List.append_nil _).symm fun bs es hfollows => by
        simpa [readsAt, eventsOf, State.phase] using hfollows.store hc.buffer⟩
  case H5 =>
    have hcount : nextCount s.params.cntW s.bytesReceived = s.bytesReceived + 1 := by rw [h.counts]; rfl
    exact ⟨_, runLabel_H5 hs, h.after hstage (State.stage_of_service hm rfl) (.inr hm) rfl
      (List.append_nil _).symm fun bs es hfollows => by simpa [readsAt, eventsOf, hcount] using hfollows.count⟩
  case H6 =>
    cases hp : packetComplete s.bytesReceived
    · have hn : s.bytesReceived % 3 ≠ 0 := packetComplete_eq_false_iff.1 hp
      exact ⟨_, runLabel_H6_partial hs hp, h.after hstage (State.stage_of_service hm rfl)
        (.inr hm) rfl (List.append_nil _).symm fun bs es hfollows => by
          simpa [readsAt, eventsOf] using hfollows.keepPartial hn⟩
    · have hn : s.bytesReceived % 3 = 0 := packetComplete_iff.1 hp
      exact ⟨_, runLabel_H6_complete hs hp, h.after hstage (State.stage_of_service hm rfl)
        (.inr hm) rfl rfl fun bs es hfollows => by simpa [readsAt, eventsOf] using hfollows.complete hn⟩
  case H7 =>
    exact ⟨_, runLabel_H7 hs, h.quiet hstage (State.stage_of_armed rfl) (.inl rfl) rfl
      (List.append_nil _).symm (by decide) (by decide) rfl rfl rfl rfl⟩
  case I0 | I1a | I1b | I2a | I2b | I2c | I2d | I3 | I4a | I4b | I4c | I4d | I5 | I6 | I7 | I8 | S1 | S2 | S3 | S4 | S5
      | S6 =>
    exact absurd hm ((hc.placed_seq hs (by decide)).ne_service (by decide))

/-- R159, R201: the block's move keeps framing, or leaves `ARMED` and `SERVICE`. -/
theorem blockTurn_framed (hc : Coherent s) (h : Framed before s) (hturn : blockTurn s = .next t)
    (hrun : t.mode = .armed ∨ t.mode = .service) : Framed before t := by
  obtain ⟨-, rfl⟩ | ⟨-, ⟨hb, hl⟩ | ⟨-, -, rfl | rfl⟩ | ⟨hm, -, rfl | rfl⟩ | ⟨-, -, -, rfl⟩⟩ := blockTurn_cases hturn
  case inl => cases hrun <;> contradiction
  case inr.inl =>
    have hm : s.mode = .service := h.running.resolve_left fun hm => by simp [hm, isQuiescent] at hb
    obtain ⟨u, hu, hframed⟩ := runLabel_framed hc h hm
    cases hu.symm.trans hl
    exact hframed
  case inr.inr.inl.inl | inr.inr.inl.inr => cases hrun <;> contradiction
  case inr.inr.inr.inl.inl => exact h.enterService hm
  case inr.inr.inr.inl.inr => exact h.afterChoice.enterService hm
  case inr.inr.inr.inr => exact h

end

/-- Settles O43, from the block's turn: the moves of the other agents change lines alone. -/
theorem framingKept : Obligations.FramingKept := by
  intro before s t hc h hstep hrun
  obtain ⟨-, hb⟩ | ⟨rest, -, hb⟩ | ⟨m, rest, -, -, r, i, q, rfl, -⟩ := step_cases hstep
  · exact blockTurn_framed hc h hb hrun
  · exact blockTurn_framed (hc.of_lines rest s.resetReq s.initReq s.irqReq)
      (h.of_lines rest s.resetReq s.initReq s.irqReq) hb hrun
  · exact h.of_lines rest r i q

/-! ## Framing in `ARMED` -/

/-- Settles O44: no byte is consumed yet, and the count is a multiple of 3. -/
theorem framingStartsAtPhaseZero : Obligations.FramingStartsAtPhaseZero := by
  intro s hm hcnt hphase
  have hcount : s.bytesReceived = 3 * (s.bytesReceived / 3) + ([] : List Byte).length :=
    (Nat.mul_div_cancel' (Nat.dvd_of_mod_eq_zero (Fin.ext_iff.1 hphase))).symm
  refine framed_iff.2 ⟨.inl hm, hcnt, [], (List.append_nil _).symm, ?_⟩
  rw [State.Frames, State.stage_of_armed hm, hcount]
  exact .settled (by decide) nofun

/-- Settles O45, from the bytes with none held. -/
theorem framingBetweenInvocations : Obligations.FramingBetweenInvocations := by
  intro before s h hm
  obtain ⟨-, -, since, htrace, hframes⟩ := framed_iff.1 h
  rw [State.Frames, State.stage_of_armed hm] at hframes
  obtain ⟨hevents, hphase, hslots⟩ := hframes.none_held (by decide)
  refine ⟨since, htrace, hevents, by rw [hevents, length_packetsOf], hphase, fun pre f x y hreads hzero => ?_⟩
  have hwhole : s.bytesReceived % 3 = 0 := Fin.ext_iff.1 hzero
  rw [hreads] at hphase hslots
  exact hslots.packet (by simp at hphase; omega)

end Sys2Proof.Machine
end

section
/-! The runs of HANDLE_IRQ (R152 to R162): whatever is answered, with no byte ready, and with one. -/

namespace Sys2Proof.Machine

/-! ## Every invocation returns -/

/-- Within `steps` steps the block is in `ARMED`, having made since `s` at most so many status reads, data reads and
events, and no write. -/
def ReturnsWithin (s : State) (steps statusReads dataReads events : Nat) : Prop :=
  ∃ k t since, k ≤ steps ∧ runSteps k s = .next t ∧ t.mode = .armed ∧ t.trace = s.trace ++ since ∧
    (readsAt s.params.ctrlPort since).length ≤ statusReads ∧ (readsAt s.params.dataPort since).length ≤ dataReads ∧
    (eventsOf since).length ≤ events ∧ writesOf since = []

section
variable {s t : State} {new : List Obs} {k a b c : Nat}

theorem ReturnsWithin.mono {k' a' b' c' : Nat} (h : ReturnsWithin s k a b c) (hk : k ≤ k' := by omega)
    (ha : a ≤ a' := by omega) (hb : b ≤ b' := by omega) (hc : c ≤ c' := by omega) : ReturnsWithin s k' a' b' c' := by
  obtain ⟨j, t, since, hj, hrun, hm, htrace, hstatus, hdata, hevents, hwrites⟩ := h
  exact ⟨j, t, since, hj.trans hk, hrun, hm, htrace, hstatus.trans ha, hdata.trans hb, hevents.trans hc, hwrites⟩

/-- A step that puts `new` out, and then the rest of the invocation. -/
theorem ReturnsWithin.after (hstep : step s = .next t) (hparams : t.params = s.params)
    (htrace : t.trace = s.trace ++ new) (hwrites : writesOf new = []) (h : ReturnsWithin t k a b c) :
    ReturnsWithin s (k + 1) ((readsAt s.params.ctrlPort new).length + a) ((readsAt s.params.dataPort new).length + b)
      ((eventsOf new).length + c) := by
  obtain ⟨j, u, since, hj, hrun, hm, hsince, hstatus, hdata, hevents, hrest⟩ := h
  rw [hparams] at hstatus hdata
  refine ⟨j + 1, u, new ++ since, Nat.succ_le_succ hj, (runSteps_succ hstep j).trans hrun, hm, ?_, ?_, ?_, ?_, ?_⟩
  · rw [hsince, htrace, List.append_assoc]
  · rw [readsAt_append, List.length_append]; exact Nat.add_le_add_left hstatus _
  · rw [readsAt_append, List.length_append]; exact Nat.add_le_add_left hdata _
  · rw [eventsOf_append, List.length_append]; exact Nat.add_le_add_left hevents _
  · rw [writesOf_append, hwrites, hrest]; rfl

/-- A step that puts nothing out. -/
theorem ReturnsWithin.after_silent (hstep : step s = .next t) (hparams : t.params = s.params)
    (htrace : t.trace = s.trace) (h : ReturnsWithin t k a b c) : ReturnsWithin s (k + 1) a b c := by
  simpa [readsAt, eventsOf] using ReturnsWithin.after (new := []) hstep hparams (by simp [htrace]) rfl h

/-- A step that makes one status read. -/
theorem ReturnsWithin.after_statusRead (hp : s.params.wf = true) (hstep : step s = .next t)
    (hparams : t.params = s.params) (htrace : t.trace = s.trace ++ [.read s.params.ctrlPort s.statusAnswer])
    (h : ReturnsWithin t k a b c) : ReturnsWithin s (k + 1) (a + 1) b c := by
  have hports : s.params.ctrlPort ≠ s.params.dataPort := of_decide_eq_true hp
  simpa [readsAt, eventsOf, hports, Nat.add_comm 1] using ReturnsWithin.after hstep hparams htrace rfl h

/-- R200: `H7` is the last step. -/
theorem returns_H7 (h : BusyAt .H7 s) : ReturnsWithin s 1 0 0 0 :=
  ⟨1, _, [], Nat.le_refl 1, runSteps_succ (step_H7 h) 0, rfl, (List.append_nil _).symm, Nat.le_refl 0, Nat.le_refl 0,
    Nat.le_refl 0, rfl⟩

/-- R158: `H6` makes at most one event. -/
theorem returns_H6 (h : BusyAt .H6 s) : ReturnsWithin s 2 0 0 1 := by
  cases hp : packetComplete s.bytesReceived
  · have hstep := h.step_eq.trans (runLabel_H6_partial h.seq_eq hp)
    have hreturns := ReturnsWithin.after_silent hstep rfl rfl (returns_H7 (h.moved rfl rfl rfl rfl))
    exact hreturns.mono
  · have hstep := h.step_eq.trans (runLabel_H6_complete h.seq_eq hp)
    exact .after hstep rfl rfl rfl (returns_H7 (h.moved rfl rfl rfl rfl))

/-- R157: `H5` counts alone. -/
theorem returns_H5 (h : BusyAt .H5 s) : ReturnsWithin s 3 0 0 1 :=
  .after_silent (h.step_eq.trans (runLabel_H5 h.seq_eq)) rfl rfl (returns_H6 (h.moved rfl rfl rfl rfl))

/-- R156: `H4` stores alone. -/
theorem returns_H4 (h : BusyAt .H4 s) : ReturnsWithin s 4 0 0 1 :=
  .after_silent (h.step_eq.trans (runLabel_H4 h.seq_eq)) rfl rfl (returns_H5 (h.moved rfl rfl rfl rfl))

/-- R155: `H3` makes the one data read. -/
theorem returns_H3 (hp : s.params.wf = true) (h : BusyAt .H3 s) : ReturnsWithin s 5 0 1 1 := by
  have hports : s.params.dataPort ≠ s.params.ctrlPort := (of_decide_eq_true hp).symm
  have hstep := h.step_eq.trans (runLabel_H3 h.seq_eq)
  simpa [readsAt, eventsOf, State.portAddr, hports] using
    ReturnsWithin.after hstep rfl rfl rfl (returns_H4 (h.moved rfl rfl rfl rfl))

/-- R154: after the status read of `H2` a byte is read or the invocation ends. -/
theorem returns_H2 (hp : s.params.wf = true) (h : BusyAt .H2 s) : ReturnsWithin s 6 1 1 1 := by
  refine .after_statusRead hp (h.step_eq.trans (runLabel_H2 h.seq_eq)) rfl rfl ?_
  cases outputFull s.statusAnswer
  · have hreturns := returns_H7 (s := s.readStatus.goto .H7) (h.moved rfl rfl rfl rfl)
    exact hreturns.mono
  · exact returns_H3 hp (h.moved rfl rfl rfl rfl)

/-- R105, R153: a wait with `n` reads left makes at most those, and then `H2` is next. -/
theorem returns_A1 {n : Nat} (hp : s.params.wf = true) (h : BusyAt .A1 s) (hret : s.retAwait = .H2)
    (hn : s.pollN + n = s.params.pollBound) : ReturnsWithin s (n + 7) (n + 1) 1 1 := by
  induction n generalizing s with
  | zero => exact .after_silent (step_A1_exhausted h hn) rfl rfl (returns_H2 hp (h.moved hret rfl rfl rfl))
  | succ n ih =>
    have hleft : s.pollN ≠ s.params.pollBound := by omega
    cases hmet : waitMet s.dir s.statusAnswer with
    | true =>
      have hrest := returns_H2 (s := s.readStatus.goto s.retAwait) hp (h.moved hret rfl rfl rfl)
      exact (ReturnsWithin.after_statusRead hp (step_A1_met h hleft hmet) rfl rfl hrest).mono
    | false =>
      have hnext : s.pollN + 1 + n = s.params.pollBound := by omega
      exact .after_statusRead hp (step_A1_again h hleft hmet) rfl rfl
        (ih hp (h.moved h.seq_eq rfl rfl rfl) hret hnext)

/-- R152, R153: `H1` calls the wait. -/
theorem returns_H1 (hp : s.params.wf = true) (h : BusyAt .H1 s) :
    ReturnsWithin s (s.params.pollBound + 8) (s.params.pollBound + 1) 1 1 := by
  have hstep := h.step_eq.trans (runLabel_awaitRecv (by simp [h.seq_eq]))
  have hret : (s.callAwait .recv).retAwait = .H2 := congrArg nextLabel h.seq_eq
  exact .after_silent hstep rfl rfl (returns_A1 hp (h.moved rfl rfl rfl rfl) hret (Nat.zero_add _))

/-- R162: from every label of HANDLE_IRQ the bounds are within those from its first. -/
theorem returns_of_service (hc : Coherent s) (hm : s.mode = .service) (hu : Undisturbed s) :
    ReturnsWithin s (s.params.pollBound + 8) (s.params.pollBound + 1) 1 1 := by
  obtain ⟨l, hs⟩ : ∃ l, s.seq = l := ⟨_, rfl⟩
  have h : BusyAt l s := .of_service hm hu hs
  cases l
  case H1 => exact returns_H1 hc.ports h
  case A1 =>
    have hleft := Nat.add_sub_cancel' (hc.polls h.busy hs)
    exact (returns_A1 hc.ports h (hc.retAwait_eq_H2 hm hs) hleft).mono
  case H2 => exact (returns_H2 hc.ports h).mono
  case H3 => exact (returns_H3 hc.ports h).mono
  case H4 => exact (returns_H4 h).mono
  case H5 => exact (returns_H5 h).mono
  case H6 => exact (returns_H6 h).mono
  case H7 => exact (returns_H7 h).mono
  case I0 | I1a | I1b | I2a | I2b | I2c | I2d | I3 | I4a | I4b | I4c | I4d | I5 | I6 | I7 | I8 | S1 | S2 | S3 | S4 | S5
      | S6 =>
    exact absurd hm ((hc.placed_seq hs (by decide)).ne_service (by decide))

end

/-- Settles O42: the bounds are those of `ReturnsWithin`. -/
theorem handlerAlwaysReturns : Obligations.HandlerAlwaysReturns :=
  fun _ => returns_of_service

/-! ## An invocation with no byte ready -/

/-- The state at `H2`, from one at `H1`: none of the wait's reads `polls` showed a byte, and the bound was reached. -/
def State.degraded (s : State) (polls rest : List Byte) : State :=
  { s with
    dir := .recv
    pollN := polls.length
    retAwait := .H2
    seq := .H2
    statusReg := polls.getLastD s.statusReg
    statusAnswers := rest
    trace := s.trace ++ polls.map (Obs.read s.params.ctrlPort)
    diags := s.diags ++ [.pollTimeout .recv] }

/-- R153, R191: a wait for a byte that is never met, from its call to its return. -/
theorem runSteps_degraded {s : State} {polls rest : List Byte} (h : BusyAt .H1 s)
    (ha : s.statusAnswers = polls ++ rest) (hlen : polls.length = s.params.pollBound)
    (hpolls : ∀ a ∈ polls, a.getLsbD 0 = false) :
    runSteps (s.params.pollBound + 2) s = .next (s.degraded polls rest) ∧ BusyAt .H2 (s.degraded polls rest) := by
  have hA1 : BusyAt .A1 (s.callAwait .recv) := h.moved rfl rfl rfl rfl
  have hlast : BusyAt .A1 ((s.callAwait .recv).polled polls rest) := hA1.moved rfl rfl rfl rfl
  have hend : (((s.callAwait .recv).polled polls rest).diag (.pollTimeout .recv)).goto (nextLabel s.seq) =
      s.degraded polls rest := by
    simp [State.degraded, State.polled, State.callAwait, State.diag, State.goto, h.seq_eq, nextLabel]
  have hbound : ((s.callAwait .recv).polled polls rest).pollN = s.params.pollBound := (Nat.zero_add _).trans hlen
  refine ⟨?_, h.moved rfl rfl rfl rfl⟩
  calc runSteps (s.params.pollBound + 2) s
    _ = runSteps (s.params.pollBound + 1) (s.callAwait .recv) :=
      runSteps_succ (h.step_eq.trans (runLabel_awaitRecv (by simp [h.seq_eq]))) _
    _ = runSteps 1 ((s.callAwait .recv).polled polls rest) :=
      hlen ▸ runSteps_trans (runSteps_polled hA1 ha hpolls hbound.le)
    _ = .next (s.degraded polls rest) := (runSteps_succ (step_A1_exhausted hlast hbound) 0).trans (congrArg _ hend)

/-- Settles O41: the acceptance, the wait that degrades, and the fresh read that shows no byte. -/
theorem spuriousServiceRun : Obligations.SpuriousServiceRun := by
  intro s busy b rest hm hu hq hi ha hlen hbusy hb
  have hH1 : BusyAt .H1 s.enterService := ⟨rfl, ⟨hu.alone, hu.noReset⟩, rfl⟩
  obtain ⟨hwait, hH2⟩ := runSteps_degraded hH1 ha hlen hbusy
  have hseq : ((s.enterService.degraded busy (b :: rest)).tested b rest).seq = .H7 := if_neg (hb ▸ Bool.false_ne_true)
  have hH7 : BusyAt .H7 ((s.enterService.degraded busy (b :: rest)).tested b rest) := hH2.moved hseq rfl rfl rfl
  have hrun : runSteps (s.params.pollBound + 5) s =
      .next ((s.enterService.degraded busy (b :: rest)).tested b rest).returnToArmed :=
    calc runSteps (s.params.pollBound + 5) s
      _ = runSteps (s.params.pollBound + 4) s.enterService := runSteps_succ (step_irqAccepted hm hu hq hi) _
      _ = runSteps 2 (s.enterService.degraded busy (b :: rest)) := runSteps_trans (n := 2) hwait
      _ = runSteps 1 ((s.enterService.degraded busy (b :: rest)).tested b rest) := runSteps_succ (step_H2 hH2 rfl) 1
      _ = .next ((s.enterService.degraded busy (b :: rest)).tested b rest).returnToArmed :=
        runSteps_succ (step_H7 hH7) 0
  exact ⟨_, hrun, rfl, rfl, rfl, rfl, rfl, by simp [State.tested, State.degraded], rfl⟩

/-! ## An invocation with a byte ready -/

section
variable {s : State} {b : Byte} {rest : List Byte}

/-- The state at `H5`, from one at `H3`: the byte `b` is read and stored at its phase (R155, R156). -/
def State.stored (s : State) (b : Byte) (rest : List Byte) : State :=
  { s.taken b rest with packetBuffer := s.packetBuffer.write s.phase b, seq := .H5 }

/-- The state at `H6`, from one at `H3`: the byte `b` is read, stored and counted (R155 to R157). -/
def State.consumed (s : State) (b : Byte) (rest : List Byte) : State :=
  { s.stored b rest with bytesReceived := s.bytesReceived + 1, seq := .H6 }

/-- R155 to R157: one byte, from its read to its count. -/
theorem runSteps_consumed (h : BusyAt .H3 s) (hcnt : s.params.cntW = none) (hd : s.dataAnswers = b :: rest) :
    runSteps 3 s = .next (s.consumed b rest) := by
  have hH4 : BusyAt .H4 (s.taken b rest) := h.moved rfl rfl rfl rfl
  have hH5 : BusyAt .H5 (s.stored b rest) := hH4.moved rfl rfl rfl rfl
  have hcount : nextCount s.params.cntW s.bytesReceived = s.bytesReceived + 1 := by rw [hcnt]; rfl
  calc runSteps 3 s
    _ = runSteps 2 (s.taken b rest) := runSteps_succ (step_H3 h hd) 2
    _ = runSteps 1 (s.stored b rest) := runSteps_succ (hH4.step_eq.trans (runLabel_H4 rfl)) 1
    _ = .next { s.stored b rest with bytesReceived := nextCount s.params.cntW s.bytesReceived, seq := .H6 } :=
      runSteps_succ (hH5.step_eq.trans (runLabel_H5 rfl)) 0
    _ = .next (s.consumed b rest) := by rw [hcount]; rfl

/-- R158: what a complete packet puts out. -/
def State.completion (s : State) : List Obs := if s.bytesReceived % 3 = 0 then [.emit s.buffered] else []

/-- From `s` at `H6` to `t` in `ARMED`: the completion is put out, and the notification's line, the count, the buffer,
the answers to come and `diag` stay. -/
structure Completed (s t : State) : Prop where
  mode : t.mode = .armed
  irqReq : t.irqReq = s.irqReq
  bytesReceived : t.bytesReceived = s.bytesReceived
  packetBuffer : t.packetBuffer = s.packetBuffer
  statusAnswers : t.statusAnswers = s.statusAnswers
  dataAnswers : t.dataAnswers = s.dataAnswers
  diags : t.diags = s.diags
  trace : t.trace = s.trace ++ s.completion

/-- R158, R200: the end of an invocation. -/
theorem exists_completed (h : BusyAt .H6 s) : ∃ t, runSteps 2 s = .next t ∧ Completed s t := by
  by_cases hn : s.bytesReceived % 3 = 0
  · have hstep := h.step_eq.trans (runLabel_H6_complete h.seq_eq (packetComplete_iff.2 hn))
    refine ⟨_, (runSteps_succ hstep 1).trans (runSteps_succ (step_H7 ?_) 0), ?_⟩
    · exact h.moved rfl rfl rfl rfl
    · exact ⟨rfl, rfl, rfl, rfl, rfl, rfl, rfl, by simp [State.completion, hn]⟩
  · have hstep := h.step_eq.trans (runLabel_H6_partial h.seq_eq (packetComplete_eq_false_iff.2 hn))
    refine ⟨_, (runSteps_succ hstep 1).trans (runSteps_succ (step_H7 ?_) 0), ?_⟩
    · exact h.moved rfl rfl rfl rfl
    · exact ⟨rfl, rfl, rfl, rfl, rfl, rfl, rfl, by simp [State.completion, hn]⟩

/-- R156, R158: a packet is complete where its last byte went to slot 2; the two bytes before it are as they were. -/
theorem State.completion_consumed (hb : s.packetBuffer.wf = true) : (s.consumed b rest).completion =
    if s.phase = 2 then [.emit (eventOf (s.packetBuffer.read 0) (s.packetBuffer.read 1) b)] else [] := by
  have hlast : (s.bytesReceived + 1) % 3 = 0 ↔ s.phase = 2 := by simp [State.phase, phaseOf, Fin.ext_iff]; omega
  by_cases hp : s.phase = 2
  · have hevent : (s.consumed b rest).buffered = eventOf (s.packetBuffer.read 0) (s.packetBuffer.read 1) b := by
      simp only [State.buffered, State.consumed, State.stored, hp, Memory.read_write_same hb]
      rw [Memory.read_write_other (by decide), Memory.read_write_other (by decide)]
    rw [if_pos hp, ← hevent]
    exact if_pos (hlast.2 hp)
  · rw [if_neg hp]
    exact if_neg (mt hlast.1 hp)

/-- The state at `H3`, from one in `ARMED`: the notification is taken, the wait is met at its first read, `a₁`, and the
fresh read is `a₂` (R152 to R154). -/
def State.byteReady (s : State) (a₁ a₂ : Byte) (stat : List Byte) : State :=
  (s.enterService.waited .recv a₁ (a₂ :: stat)).tested a₂ stat

/-- R152 to R154: from `ARMED` to `H3`, with a byte ready. -/
theorem runSteps_byteReady {a₁ a₂ : Byte} {stat : List Byte} (hm : s.mode = .armed) (hu : Undisturbed s)
    (hq : s.irqReq = true) (hi : s.initReq = false) (hbound : 0 < s.params.pollBound) (h₁ : a₁.getLsbD 0 = true)
    (h₂ : a₂.getLsbD 0 = true) (ha : s.statusAnswers = a₁ :: a₂ :: stat) :
    runSteps 4 s = .next (s.byteReady a₁ a₂ stat) ∧ BusyAt .H3 (s.byteReady a₁ a₂ stat) := by
  have hH1 : BusyAt .H1 s.enterService := ⟨rfl, ⟨hu.alone, hu.noReset⟩, rfl⟩
  have hH2 : BusyAt .H2 (s.enterService.waited .recv a₁ (a₂ :: stat)) := hH1.moved rfl rfl rfl rfl
  refine ⟨?_, hH2.moved (if_pos h₂) rfl rfl rfl⟩
  calc runSteps 4 s
    _ = runSteps 3 s.enterService := runSteps_succ (step_irqAccepted hm hu hq hi) 3
    _ = runSteps 1 (s.enterService.waited .recv a₁ (a₂ :: stat)) :=
      runSteps_trans (m := 2) (n := 1)
        (runSteps_waited hH1 (runLabel_awaitRecv (by simp)) hbound ha (waitMet_iff.2 (.inr ⟨rfl, h₁⟩)))
    _ = .next (s.byteReady a₁ a₂ stat) := runSteps_succ (step_H2 hH2 rfl) 0

end

/-- Settles O40: from `ARMED` to `H3`, the byte consumed, and the end. -/
theorem byteServiceRun : Obligations.ByteServiceRun := by
  intro s a₁ a₂ b stat rest hm hu hq hi hbound hb hcnt h₁ h₂ ha hd
  obtain ⟨hready, hH3⟩ := runSteps_byteReady hm hu hq hi hbound h₁ h₂ ha
  have hconsumed := runSteps_consumed hH3 hcnt hd
  have hH6 : BusyAt .H6 ((s.byteReady a₁ a₂ stat).consumed b rest) := hH3.moved rfl rfl rfl rfl
  obtain ⟨t, hcompleted, hdone⟩ := exists_completed hH6
  have hrun : runSteps 9 s = .next t :=
    (runSteps_trans (m := 4) (n := 5) hready).trans <| (runSteps_trans (m := 3) (n := 2) hconsumed).trans hcompleted
  have hcompletion := State.completion_consumed (s := s.byteReady a₁ a₂ stat) (b := b) (rest := rest) hb
  refine ⟨t, hrun, hdone.mode, hdone.irqReq, hdone.bytesReceived, ?same, fun i hne => ?other, hdone.statusAnswers,
    hdone.dataAnswers, hdone.diags, ?trace⟩
  case same => rw [hdone.packetBuffer]; exact Memory.read_write_same hb
  case other => rw [hdone.packetBuffer]; exact Memory.read_write_other hne
  case trace =>
    rw [hdone.trace, hcompletion]
    simp only [State.consumed, State.stored, State.taken, State.byteReady, State.tested, State.waited,
      List.append_assoc]
    rfl

end Sys2Proof.Machine
end

section
/-! Decoding (R170 to R176): the internal steps of a complete packet, the flags bits an event is read from, and an accumulator as
an integer. -/

namespace Sys2Proof.Machine

/-- R170: DECODE holds the event of the buffered bytes and changes nothing else. -/
theorem exec_decode (s : State) : exec .decode s = .next { s with packet := s.buffered } := rfl

/-- Settles O46: the fields of the buffered bytes' event, with `delta` the magnitude negated by its sign bit. -/
theorem decodeResult : Obligations.DecodeResult :=
  fun s => ⟨_, exec_decode s, rfl, rfl, rfl, rfl, rfl, rfl⟩

/-- Settles O47: an event is read from bits 0, 1, 2, 4 and 5 of the flags byte. -/
theorem decodeIgnoresUnusedFlagBits : Obligations.DecodeIgnoresUnusedFlagBits := by
  intro f g x y h
  obtain ⟨hleft, hright, hmiddle, hxSign, hySign⟩ :
      f.getLsbD 0 = g.getLsbD 0 ∧ f.getLsbD 1 = g.getLsbD 1 ∧ f.getLsbD 2 = g.getLsbD 2 ∧
        f.getLsbD 4 = g.getLsbD 4 ∧ f.getLsbD 5 = g.getLsbD 5 := by
    simpa using h
  simp only [eventOf, hleft, hright, hmiddle, hxSign, hySign]

/-- Settles O49: the operation is `State.record` of the decoded packet. -/
theorem emitResult : Obligations.EmitResult :=
  fun _ => rfl

/-- R176: the delta in 16-bit two's complement, read as an unsigned integer, is the delta modulo 2^16. -/
theorem toNat_accumulate_assign (acc : Half) (d : Int) :
    ((accumulate .assign acc d).toNat : Int) = d % 2 ^ 16 :=
  calc ((BitVec.ofInt 16 d).toNat : Int)
    _ = (d % 2 ^ 16).toNat := congrArg Nat.cast (BitVec.toNat_ofInt d)
    _ = d % 2 ^ 16 := Int.toNat_of_nonneg (Int.emod_nonneg d (by decide))

/-- R176: with `ADD` the accumulator is the sum modulo 2^16, whatever the sign of the delta. -/
theorem toNat_accumulate_add (acc : Half) (d : Int) :
    ((accumulate .add acc d).toNat : Int) = (acc.toNat + d) % 2 ^ 16 := by
  have hsum : accumulate .add acc d = acc + accumulate .assign acc d := rfl
  rw [hsum, BitVec.toNat_add, Int.natCast_emod, Int.natCast_add, toNat_accumulate_assign]
  exact Int.add_emod_emod _ _ _

/-- R176: ACC_UPDATE takes each accumulator past its own delta and changes nothing else. -/
theorem exec_accUpdate (s : State) : exec .accUpdate s = .next { s with
    cumulativeX := accumulate s.params.accMode s.cumulativeX s.packet.dx
    cumulativeY := accumulate s.params.accMode s.cumulativeY s.packet.dy } := rfl

/-- Settles O50, by `ACC_MODE`. -/
theorem accUpdateResult : Obligations.AccUpdateResult := by
  refine fun s => ⟨_, exec_accUpdate s, rfl, fun hadd => ?add, fun hassign => ?assign, fun hdead => ?dead⟩
  case add => rw [hadd]; exact ⟨toNat_accumulate_add .., toNat_accumulate_add ..⟩
  case assign => rw [hassign]; exact ⟨toNat_accumulate_assign s.cumulativeX _, toNat_accumulate_assign s.cumulativeY _⟩
  case dead => rw [hdead]; exact ⟨rfl, rfl⟩

end Sys2Proof.Machine
end

section
/-! Acceptance and the modes (R198 to R202, R220, R242): which request the block takes, what its own steps leave of the mode and of
the other agents' lines, and the steps that change the mode. -/

namespace Sys2Proof.Machine

/-! ## The block's move, by mode -/

/-- R7: where the schedule names no agent the block moves. -/
theorem step_of_schedule_nil {s : State} (h : s.schedule = []) : step s = blockTurn s := by
  simp only [step, turn, h]

/-- R198: an outstanding RESET is what the block accepts, in every mode. -/
theorem blockTurn_reset {s : State} (hr : s.resetReq = true) : blockTurn s = exec .reset s :=
  if_pos hr

/-- R202: what the block's move is in `OFF`, RESET apart. -/
theorem blockTurn_off {s : State} (hr : s.resetReq = false) (hm : s.mode = .off) : blockTurn s = acceptOff s := by
  simp [blockTurn, hr, hm]

/-- R198, R202: what the block's move is in `ARMED`, RESET apart. -/
theorem blockTurn_armed {s : State} (hr : s.resetReq = false) (hm : s.mode = .armed) :
    blockTurn s = acceptArmed s := by
  simp [blockTurn, hr, hm]

/-- R198: with both requests outstanding the choice decides, and is used up. -/
theorem acceptArmed_both {s : State} (hq : s.irqReq = true) (hi : s.initReq = true) :
    acceptArmed s = if s.irqFirst then exec .handleIrq s.afterChoice else exec .init s.afterChoice := by
  simp only [acceptArmed, hq, hi]

/-- R198: a listed choice is the one taken. -/
theorem State.irqFirst_listed {s : State} {b : Bool} {rest : List Bool} (h : s.arbiter = b :: rest) :
    s.irqFirst = b := by
  simp [State.irqFirst, h]

/-- R198: a listed choice is used up, and no free one is drawn. -/
theorem State.afterChoice_listed {s : State} {b : Bool} {rest : List Bool} (h : s.arbiter = b :: rest) :
    s.afterChoice = { s with arbiter := rest } := by
  simp [State.afterChoice, drawsAfter, h]

/-- Settles O6, by what is outstanding and, where both requests are, by the choice. -/
theorem requestsAcceptedByModeAndPriority : Obligations.RequestsAcceptedByModeAndPriority := by
  intro s hs
  rw [step_of_schedule_nil hs]
  refine ⟨blockTurn_reset, fun hr hm hi => ?off, fun hr hm => ?armed⟩
  case off => exact (blockTurn_off hr hm).trans (if_pos hi)
  case armed =>
    rw [blockTurn_armed hr hm]
    refine ⟨fun hq hi => ?irq, fun hq hi => ?init, fun hq hi => ?both⟩
    case irq | init => simp only [acceptArmed, hq, hi]
    case both =>
      rw [acceptArmed_both hq hi]
      refine ⟨fun rest ha => ?irqFirst, fun rest ha => ?initFirst, ?either⟩
      case irqFirst | initFirst => simp [State.irqFirst_listed ha, State.afterChoice_listed ha]
      case either => exact (em (s.irqFirst = true)).imp (fun h => if_pos h) fun h => if_neg h

/-- Settles O31: RESET answers a state, and so does every label. -/
theorem busyBlockIsNeverStuck : Obligations.BusyBlockIsNeverStuck := by
  intro s hb hs
  cases hr : s.resetReq
  case true => exact ⟨_, (step_of_schedule_nil hs).trans (blockTurn_reset hr)⟩
  case false => exact step_busy hb hs hr ▸ runLabel_next s

/-! ## The mode and the lines across a label -/

/-- The mode and the two lines that a busy block leaves outstanding (R199, R201, R202). -/
def State.control (s : State) : Mode × Bool × Bool := (s.mode, s.irqReq, s.initReq)

/-- The three requests (R82), the operations that write the mode or a line. -/
def isRequest : Instr → Bool
  | .reset | .init | .handleIrq => true
  | _ => false

/-- R82: an operation that is no request writes neither the mode nor a line. -/
theorem exec_control {i : Instr} {s t : State} (hi : isRequest i = false) (h : exec i s = .next t) :
    t.control = s.control := by
  cases i
  case reset | init | handleIrq => cases hi
  case ack => cases (exec_ack_goto s).symm.trans h; rfl
  all_goals cases h; rfl

theorem execAll_control {is : List Instr} {s t : State} (hi : is.any isRequest = false)
    (h : execAll is s = .next t) : t.control = s.control := by
  induction is generalizing s with
  | nil => cases h; rfl
  | cons i is ih =>
    obtain ⟨hhead, htail⟩ := Bool.or_eq_false_iff.mp hi
    obtain ⟨u, hu, hrest⟩ := andThen_eq_next h
    exact (ih htail hrest).trans (exec_control hhead hu)

/-- R28: no label performs a request. -/
theorem State.labelOps_any_isRequest (s : State) (l : Label) : (s.labelOps l).any isRequest = false := by
  cases l
  case A1 | H6 =>
    simp only [State.labelOps]
    split <;> rfl
  all_goals rfl

/-- R28: a label's own action writes the mode at `I8` and `H7` alone, and no line. -/
theorem State.finishLabel_control (s : State) {l : Label} (hl : l ∉ [Label.I8, .H7]) :
    (s.finishLabel l).control = s.control := by
  cases l
  case I8 | H7 => exact absurd (by decide) hl
  case A1 =>
    simp only [State.finishLabel, State.finishPoll]
    split
    · rfl
    · split <;> rfl
  all_goals rfl

/-- R199, R201: a label but the last of its operation writes neither the mode nor a line. -/
theorem runLabel_control {s t : State} (hs : s.seq ∉ [Label.I8, .H7]) (h : runLabel s = .next t) :
    t.control = s.control := by
  obtain ⟨u, hu, ht⟩ := andThen_eq_next h
  cases ht
  exact (u.finishLabel_control hs).trans (execAll_control (s.labelOps_any_isRequest s.seq) hu)

/-- R140, R200: the last label of INIT and that of the handler both leave the block in `ARMED`, and do nothing else. -/
theorem runLabel_last {s : State} (hs : s.seq ∈ [Label.I8, .H7]) : runLabel s = .next s.returnToArmed := by
  simp only [List.mem_cons, List.not_mem_nil, or_false] at hs
  exact hs.elim runLabel_I8 runLabel_H7

/-- Settles O10: the last labels write the mode, and no label writes a line. -/
theorem busyBlockHoldsRequests : Obligations.BusyBlockHoldsRequests := by
  intro s t hb hu h
  rw [step_busy hb hu.alone hu.noReset] at h
  by_cases hs : s.seq ∈ [Label.I8, .H7]
  · cases (runLabel_last hs).symm.trans h
    exact ⟨rfl, rfl, .inr rfl⟩
  · obtain ⟨hmode, hirq, hinit⟩ : t.mode = s.mode ∧ t.irqReq = s.irqReq ∧ t.initReq = s.initReq := by
      simpa [State.control] using runLabel_control hs h
    exact ⟨hirq, hinit, .inl hmode⟩

/-! ## The steps that change the mode -/

/-- R8, R243: a step is the block's move or changes no more than the moves to come and the lines. -/
theorem step_block_or_lines {s t : State} (h : step s = .next t) :
    (∃ rest, blockTurn { s with schedule := rest } = .next t) ∨
    (∃ rest r i q, t = { s with schedule := rest, resetReq := r, initReq := i, irqReq := q }) := by
  obtain ⟨-, hb⟩ | ⟨rest, -, hb⟩ | ⟨-, rest, -, -, r, i, q, ht, -⟩ := step_cases h
  · exact .inl ⟨s.schedule, hb⟩
  · exact .inl ⟨rest, hb⟩
  · exact .inr ⟨rest, r, i, q, ht⟩

theorem off_or_armed_of_isQuiescent {m : Mode} (h : isQuiescent m = true) : m = .off ∨ m = .armed := by
  cases m
  case off => exact .inl rfl
  case armed => exact .inr rfl
  case init | service => cases h

/-- R27: a busy block at a label of the handler's runs it. -/
theorem Placed.eq_service {m : Mode} {l r : Label} {c g : Byte} (h : Placed m l r c g) (hb : isQuiescent m = false)
    (hl : l ∉ initLabels ++ sendLabels) : m = .service := by
  cases m
  case service => rfl
  case init => exact absurd rfl (h.ne_init hl)
  case off | armed => cases hb

/-- R202: a label that changes the mode is the last of its operation, and leaves `ARMED`. -/
theorem Coherent.runLabel_mode {s t : State} (hs : Coherent s) (hb : isQuiescent s.mode = false)
    (h : runLabel s = .next t) (hne : t.mode ≠ s.mode) :
    ((s.mode = .init ∧ s.seq = .I8) ∨ (s.mode = .service ∧ s.seq = .H7)) ∧ t.mode = .armed := by
  have hlast : s.seq ∈ [Label.I8, .H7] := by_contra fun hn => hne (congrArg Prod.fst (runLabel_control hn h))
  cases (runLabel_last hlast).symm.trans h
  simp only [List.mem_cons, List.not_mem_nil, or_false] at hlast
  refine ⟨hlast.imp (fun hI8 => ⟨?_, hI8⟩) fun hH7 => ⟨?_, hH7⟩, rfl⟩
  · exact (hs.placed_seq hI8 (by decide)).eq_init hb (by decide)
  · exact (hs.placed_seq hH7 (by decide)).eq_service hb (by decide)

/-- Settles O8, by what the block's move can be: the moves of the other agents change lines alone. -/
theorem modeTransitionsComplete : Obligations.ModeTransitionsComplete := by
  intro s t hs h hne
  obtain ⟨rest, hturn⟩ | ⟨_, _, _, _, rfl⟩ := step_block_or_lines h
  case inr => exact absurd rfl hne
  obtain ⟨hr, rfl⟩ | ⟨hr, ⟨hb, hl⟩ | ⟨hq, hi, ht⟩ | ⟨hm, hq, ht⟩ | ⟨-, -, -, rfl⟩⟩ := blockTurn_cases hturn
  · exact .inl ⟨hr, rfl⟩
  · have hc := hs.of_lines rest s.resetReq s.initReq s.irqReq
    obtain ⟨⟨hm, hseq⟩ | ⟨hm, hseq⟩, harmed⟩ := hc.runLabel_mode hb hl hne
    · exact .inr (.inr (.inl ⟨hr, hm, hseq, harmed⟩))
    · exact .inr (.inr (.inr (.inr ⟨hr, hm, hseq, harmed⟩)))
  · have hinit : t.mode = .init ∧ t.seq = .I0 := by obtain rfl | rfl := ht <;> exact ⟨rfl, rfl⟩
    exact .inr (.inl ⟨hr, off_or_armed_of_isQuiescent hq, hi, hinit⟩)
  · have hservice : t.mode = .service ∧ t.seq = .H1 := by obtain rfl | rfl := ht <;> exact ⟨rfl, rfl⟩
    exact .inr (.inr (.inr (.inl ⟨hr, hm, hq, hservice⟩)))
  · exact absurd rfl hne

/-- Settles O9: of the block's moves in `OFF`, the acceptance of INIT alone changes anything. -/
theorem offLeavesOnlyByInit : Obligations.OffLeavesOnlyByInit := by
  intro s t hoff hr h
  obtain ⟨rest, hturn⟩ | ⟨_, _, _, _, rfl⟩ := step_block_or_lines h
  case inr => exact ⟨rfl, rfl, .inl hoff⟩
  obtain ⟨hr', -⟩ | ⟨-, ⟨hb, -⟩ | ⟨-, hi, rfl | rfl⟩ | ⟨hm, -⟩ | ⟨-, -, -, rfl⟩⟩ := blockTurn_cases hturn
  · exact absurd (hr.symm.trans hr') (by decide)
  · simp [hoff, isQuiescent] at hb
  · exact ⟨rfl, rfl, .inr ⟨rfl, rfl, hi⟩⟩
  · exact ⟨rfl, rfl, .inr ⟨rfl, rfl, hi⟩⟩
  · exact absurd (hoff.symm.trans hm) (by decide)
  · exact ⟨rfl, rfl, .inl hoff⟩

end Sys2Proof.Machine
end

section
/-! RESET's effect on the registers (R220, R221), the end of a run (R242) and the moves of the host and the platform (R243). -/

namespace Sys2Proof.Machine

/-- Settles O2: RESET's meaning writes neither the outputs, the parameters, the other lines nor the environment. -/
theorem resetTurnsOffWithoutOutput : Obligations.ResetTurnsOffWithoutOutput :=
  fun _ => ⟨_, rfl, rfl, rfl, rfl, rfl, rfl, rfl, rfl, rfl, rfl, rfl, rfl⟩

/-- Settles O3: every field of the state after RESET is a constant, a free value by the draw counter, or one of the ten fields
that agree. -/
theorem resetForgetsEveryRegister : Obligations.ResetForgetsEveryRegister := by
  intro s r hparams hdraws htrace hdiags hinit hirq hschedule harbiter hstatus hdata
  simp only [exec, execReset, State.loseRegisters, hparams, hdraws, htrace, hdiags, hinit, hirq, hschedule, harbiter,
    hstatus, hdata]

/-- Settles O7, by the two quiescent modes: with nothing that the mode accepts, the state is answered. -/
theorem runOverChangesNothing : Obligations.RunOverChangesNothing := by
  intro s hs ⟨hr, hover⟩
  rw [step_of_schedule_nil hs]
  obtain ⟨hm, hi⟩ | ⟨hm, hi, hq⟩ := hover
  case inl => exact (blockTurn_off hr hm).trans (if_neg (Bool.eq_false_iff.1 hi))
  case inr =>
    rw [blockTurn_armed hr hm]
    simp only [acceptArmed, hq, hi]

/-- Settles O11: each of the four moves is its line's new value. -/
theorem outsideMovesTouchOnlyLines : Obligations.OutsideMovesTouchOnlyLines :=
  fun _ _ => ⟨step_of_schedule, step_of_schedule, step_of_schedule, step_of_schedule⟩

end Sys2Proof.Machine
end

section
/-! The named premises of R244: what each of them gives of the run from a state. -/

namespace Sys2Proof.Machine

/-! ## Runs, from their last step -/

/-- A run and one more step. -/
theorem runSteps_concat {k : Nat} {s u : State} (h : runSteps k s = .next u) : runSteps (k + 1) s = step u := by
  rw [runSteps_trans h, runSteps]
  exact andThen_pure (step u)

/-- The last step of a run. -/
theorem exists_last_step {k : Nat} {s t : State} (h : runSteps (k + 1) s = .next t) :
    ∃ u, runSteps k s = .next u ∧ step u = .next t := by
  rw [runSteps_add] at h
  obtain ⟨u, hu, -⟩ := andThen_eq_next h
  exact ⟨u, hu, (runSteps_concat hu).symm.trans ((runSteps_add k 1 s).trans h)⟩

/-- What holds at a state, and is kept by every step of a run from it, holds where the run comes to. -/
theorem runSteps_induction {P : State → Prop} {k : Nat} {s t : State} (hstart : P s)
    (hstep : ∀ i u v, i < k → runSteps i s = .next u → P u → step u = .next v → P v) (hrun : runSteps k s = .next t) :
    P t := by
  induction k generalizing t with
  | zero => cases hrun; exact hstart
  | succ k ih =>
    obtain ⟨u, hu, ht⟩ := exists_last_step hrun
    have hbefore : P u := ih (fun i u v hi => hstep i u v (Nat.lt_succ_of_lt hi)) hu
    exact hstep k u t (Nat.lt_succ_self k) hu hbefore ht

/-! ## `P_EXCLUSIVE` and `P_SERIAL`: the run never stops -/

/-- R190: no operation stops. -/
theorem exec_next (i : Instr) (s : State) : ∃ t, exec i s = .next t := by
  cases i
  case init | handleIrq => exact (em _).elim (fun h => ⟨_, if_pos h⟩) fun h => ⟨_, if_neg h⟩
  all_goals exact ⟨_, rfl⟩

/-- R190: the block's own move never stops. -/
theorem blockTurn_next (s : State) : ∃ t, blockTurn s = .next t := by
  cases hr : s.resetReq
  case true => exact blockTurn_reset hr ▸ exec_next .reset s
  case false =>
    cases hm : s.mode
    case init | service => exact blockTurn_busy (by rw [hm]; rfl) hr ▸ runLabel_next s
    case off =>
      rw [blockTurn_off hr hm, acceptOff]
      split
      · exact exec_next .init s
      · exact ⟨s, rfl⟩
    case armed =>
      rw [blockTurn_armed hr hm, acceptArmed]
      split
      · split
        · exact exec_next .handleIrq s.afterChoice
        · exact exec_next .init s.afterChoice
      · exact exec_next .handleIrq s
      · exact exec_next .init s
      · exact ⟨s, rfl⟩

/-- R63, R200: a step stops at another master's access or a second handler invocation while the block is busy, and nowhere
else. -/
theorem step_next {s : State} (hforeign : isQuiescent s.mode = false → s.schedule.head? ≠ some .foreignAccess)
    (hnested : isQuiescent s.mode = false → s.schedule.head? ≠ some .nestedHandler) : ∃ t, step s = .next t := by
  cases hs : s.schedule with
  | nil => exact step_of_schedule_nil hs ▸ blockTurn_next s
  | cons m rest =>
    rw [hs, List.head?_cons] at hforeign hnested
    cases m
    case block => exact step_of_schedule hs ▸ blockTurn_next _
    case foreignAccess =>
      have hq : isQuiescent s.mode = true := by_contra fun hb => hforeign (Bool.eq_false_iff.2 hb) rfl
      exact ⟨_, ((premiseBreakersAreRefused s rest).1 hs).2 hq⟩
    case nestedHandler =>
      have hq : isQuiescent s.mode = true := by_contra fun hb => hnested (Bool.eq_false_iff.2 hb) rfl
      exact ⟨_, ((premiseBreakersAreRefused s rest).2 hs).2 hq⟩
    case raiseReset | raiseInit | deliverIrq | dropIrq => exact ⟨_, step_of_schedule hs⟩

/-- R63, R200: with both moves barred every step of the run answers a next state. -/
theorem runSteps_next {s : State} (hexclusive : PExclusive s) (hserial : PSerial s) :
    ∀ k, ∃ t, runSteps k s = .next t
  | 0 => ⟨s, rfl⟩
  | k + 1 => by
    obtain ⟨u, hu⟩ := runSteps_next hexclusive hserial k
    exact runSteps_concat hu ▸ step_next (hexclusive u ⟨k, hu⟩) (hserial u ⟨k, hu⟩)

/-! ## `P_ACK`: INIT ends in `ARMED` -/

/-- The run from `s` comes to a state in `ARMED`. -/
def ReachesArmed (s : State) : Prop := ∃ k t, runSteps k s = .next t ∧ t.mode = .armed

/-- A coherent block in INIT, alone to move. -/
structure InInit (s : State) : Prop where
  coherent : Coherent s
  running : s.mode = .init
  undisturbed : Undisturbed s

/-- INIT is past its second call of SEND_DEVICE_COMMAND (R112). -/
structure SecondCommand (s : State) : Prop where
  returns : s.retSend = .I7
  position : s.position ∈ sendLabels ++ [Label.I7, .I8]

section
variable {s t : State} {k : Nat}

theorem ReachesArmed.of_run (h : runSteps k s = .next t) (ht : ReachesArmed t) : ReachesArmed s := by
  obtain ⟨m, u, hu, harmed⟩ := ht
  exact ⟨k + m, u, (runSteps_trans h).trans hu, harmed⟩

theorem InInit.busyAt {l : Label} (h : InInit s) (hs : s.seq = l) : BusyAt l s :=
  ⟨by rw [h.running]; rfl, h.undisturbed, hs⟩

/-- R201: the step is the label's. -/
theorem InInit.runLabel_of_step (h : InInit s) (hstep : step s = .next t) : runLabel s = .next t :=
  (h.busyAt rfl).step_eq.symm.trans hstep

/-- R113: at `S6` the step is the data read. -/
theorem InInit.step_S6 (h : InInit s) (hs : s.seq = .S6) :
    step s = .next (s.readData.goto (if isAck s.dataAnswer then s.retSend else .S6)) :=
  (h.busyAt hs).step_eq.trans (runLabel_S6_goto hs)

/-- R201, R202: a step goes on in INIT or ends it. -/
theorem InInit.of_step (h : InInit s) (hstep : step s = .next t) : t.mode = .armed ∨ InInit t := by
  have hc : Coherent t := coherenceKept s t h.coherent hstep
  by_cases hs : s.seq = .S6
  · cases (h.step_S6 hs).symm.trans hstep
    exact .inr ⟨hc, h.running, h.undisturbed.alone, h.undisturbed.noReset⟩
  · obtain ⟨u, hu, hnear⟩ := runLabel_nearerAck h.coherent h.running hs
    cases (h.runLabel_of_step hstep).symm.trans hu
    exact hnear.nearer.imp_right fun hm => ⟨hc, hm.1.trans h.running, hnear.schedule.trans h.undisturbed.alone,
      hnear.resetReq.trans h.undisturbed.noReset⟩

/-- A label past the second call, reached outside a wait. -/
theorem SecondCommand.of_seq {l : Label} (hret : t.retSend = .I7) (ht : t.seq = l)
    (hl : l ∈ sendLabels ++ [Label.I7, .I8]) : SecondCommand t := by
  have hne : l ≠ .A1 := (by decide : ∀ l ∈ sendLabels ++ [Label.I7, .I8], l ≠ .A1) l hl
  exact ⟨hret, State.position_eq ht hne ▸ hl⟩

/-- A wait called past the second call. -/
theorem SecondCommand.callAwait {l : Label} (hret : s.retSend = .I7) (hs : s.seq = l)
    (hl : nextLabel l ∈ sendLabels) (d : Dir) : SecondCommand (s.callAwait d) := by
  have hposition : (s.callAwait d).position = nextLabel s.seq := State.position_of_A1 rfl
  exact ⟨hret, List.mem_append_left _ (by rwa [hposition, hs])⟩

/-- R28: no label past the second call leads back before it. -/
theorem runLabel_secondCommand (h : SecondCommand s) : ∃ t, runLabel s = .next t ∧ SecondCommand t := by
  obtain ⟨hret, hpos⟩ := h
  cases hs : s.seq
  case A1 =>
    have hresume := State.position_of_A1 hs ▸ hpos
    by_cases hp : s.pollN = s.params.pollBound
    · exact ⟨_, runLabel_A1_exhausted hs hp, .of_seq hret rfl hresume⟩
    · cases hmet : waitMet s.dir s.statusAnswer
      · exact ⟨_, runLabel_A1_again hs hp hmet, hret, hpos⟩
      · exact ⟨_, runLabel_A1_met hs hp hmet, .of_seq hret rfl hresume⟩
  case S1 | S3 => exact ⟨_, runLabel_awaitSend (by simp [hs]), .callAwait hret hs (by decide) _⟩
  case S5 => exact ⟨_, runLabel_awaitRecv (by simp [hs]), .callAwait hret hs (by decide) _⟩
  case S2 => exact ⟨_, runLabel_S2 hs, .of_seq (l := .S3) hret rfl (by decide)⟩
  case S4 => exact ⟨_, runLabel_S4 hs, .of_seq (l := .S5) hret rfl (by decide)⟩
  case S6 =>
    refine ⟨_, runLabel_S6_goto hs, .of_seq (l := if isAck s.dataAnswer then s.retSend else .S6) hret rfl ?_⟩
    split
    · rw [hret]; decide
    · decide
  case I7 => exact ⟨_, runLabel_I7 hs, .of_seq (l := .I8) hret rfl (by decide)⟩
  case I8 => exact ⟨_, runLabel_I8 hs, hret, hpos⟩
  all_goals exact absurd (State.position_eq hs (by decide) ▸ hpos) (by decide)

/-- R113: the data read that `P_ACK` grants at `S6` answers 0xFA, so the command returns. -/
theorem InInit.step_of_readsAck (h : InInit s) (hs : s.seq = .S6) (hack : ReadsAck s) :
    step s = .next (s.readData.goto s.retSend) := by
  obtain ⟨t, hstep, htrace⟩ := hack
  have hread := h.step_S6 hs
  cases hread.symm.trans hstep
  have hanswer : s.dataAnswer = ackByte := by simpa [State.portAddr] using htrace
  rwa [if_pos (isAck_iff.2 hanswer)] at hread

/-- R201: a run from a point of INIT stays in INIT, and past the second call where it began there, or has come to `ARMED`. -/
theorem InInit.of_run (h : InInit s) (hrun : runSteps k s = .next t) :
    ReachesArmed s ∨ (InInit t ∧ (SecondCommand s → SecondCommand t)) := by
  refine runSteps_induction (P := fun t => ReachesArmed s ∨ (InInit t ∧ (SecondCommand s → SecondCommand t)))
    (.inr ⟨h, id⟩) (fun i u v _ hu hinit hstep => ?_) hrun
  obtain harmed | ⟨hinit, hsecond⟩ := hinit
  · exact .inl harmed
  obtain harmed | hv := hinit.of_step hstep
  · exact .inl ⟨i + 1, v, (runSteps_concat hu).trans hstep, harmed⟩
  refine .inr ⟨hv, fun hs => ?_⟩
  obtain ⟨w, hw, hkept⟩ := runLabel_secondCommand (hsecond hs)
  cases (hinit.runLabel_of_step hstep).symm.trans hw
  exact hkept

/-- R143: with every acknowledgement granted, INIT comes to the return of a device command, the second where it was past the
second call, or to its end. -/
theorem InInit.reaches_return (h : InInit s) (hack : PAck s) :
    ReachesArmed s ∨ ∃ k t, runSteps k s = .next t ∧ InInit t ∧
      (t.seq = .I7 ∨ (t.seq = .I6 ∧ ¬ SecondCommand s)) := by
  obtain ⟨k, u, -, hu, harmed | ⟨hm, hseq⟩⟩ := initBlocksOnlyAtAck s h.coherent h.running h.undisturbed
  · exact .inl ⟨k, u, hu, harmed⟩
  obtain ⟨j, w, hw, hread, hstays⟩ := hack u ⟨k, hu⟩ hm hseq
  have hrun : runSteps (k + j) s = .next w := (runSteps_trans hu).trans hw
  obtain harmed | ⟨hinit, hsecond⟩ := h.of_run hrun
  · exact .inl harmed
  have hS6 : w.seq = .S6 := (hstays j w le_rfl hw).2
  have hstep := hinit.step_of_readsAck hS6 hread
  refine .inr ⟨k + j + 1, _, (runSteps_concat hrun).trans hstep, ?_, ?_⟩
  · exact (hinit.of_step hstep).resolve_left (by simp [hinit.running])
  · obtain ⟨hret, -⟩ | ⟨hret, -⟩ := hinit.coherent.send_cases hinit.running hS6 (by decide)
    · exact .inr ⟨hret, fun hs => by simp [(hsecond hs).returns] at hret⟩
    · exact .inl hret

/-- R139, R140: two steps end INIT after the second command. -/
theorem InInit.reachesArmed_of_I7 (h : InInit s) (hs : s.seq = .I7) : ReachesArmed s :=
  ⟨2, s.initEnded, runSteps_initEnded (h.busyAt hs), rfl⟩

/-- R112: the second call. -/
theorem InInit.step_I6 (h : InInit s) (hs : s.seq = .I6) :
    step s = .next (s.callSend 0xF4) ∧ InInit (s.callSend 0xF4) ∧ SecondCommand (s.callSend 0xF4) := by
  have hstep := (h.busyAt hs).step_eq.trans (runLabel_I6 hs)
  have hret : nextLabel s.seq = .I7 := by rw [hs]; rfl
  exact ⟨hstep, (h.of_step hstep).resolve_left (by simp [h.running]), .of_seq (l := .S1) hret rfl (by decide)⟩

/-- R143: past the second call one acknowledgement is left. -/
theorem InInit.reachesArmed_of_secondCommand (h : InInit s) (hsecond : SecondCommand s) (hack : PAck s) :
    ReachesArmed s := by
  obtain harmed | ⟨k, t, hrun, ht, hs | ⟨-, hnot⟩⟩ := h.reaches_return hack
  · exact harmed
  · exact .of_run hrun (ht.reachesArmed_of_I7 hs)
  · exact absurd hsecond hnot

/-- R143: with every acknowledgement granted, INIT ends. -/
theorem InInit.reachesArmed (h : InInit s) (hack : PAck s) : ReachesArmed s := by
  obtain harmed | ⟨k, t, hrun, ht, hs | ⟨hs, -⟩⟩ := h.reaches_return hack
  · exact harmed
  · exact .of_run hrun (ht.reachesArmed_of_I7 hs)
  · obtain ⟨hstep, hinit, hsecond⟩ := ht.step_I6 hs
    have hcall : runSteps (k + 1) s = .next (t.callSend 0xF4) := (runSteps_concat hrun).trans hstep
    exact .of_run hcall (hinit.reachesArmed_of_secondCommand hsecond (pack_later hack hcall))

end

/-! ## `P_NO_DEGRADE`: no `diag` -/

/-- R12: no operation reports. -/
theorem exec_diags {i : Instr} {s t : State} (h : exec i s = .next t) : t.diags = s.diags := by
  cases i
  case init => obtain rfl | rfl := exec_init_cases h <;> rfl
  case handleIrq => obtain rfl | rfl := exec_handleIrq_cases h <;> rfl
  case ack => cases (exec_ack_goto s).symm.trans h; rfl
  all_goals cases h; rfl

theorem execAll_diags {is : List Instr} {s t : State} (h : execAll is s = .next t) : t.diags = s.diags := by
  induction is generalizing s with
  | nil => cases h; rfl
  | cons i is ih =>
    obtain ⟨u, hu, hrest⟩ := andThen_eq_next h
    exact (ih hrest).trans (exec_diags hu)

/-- R28: of the labels' own actions only the end of a wait reports. -/
theorem State.finishLabel_diags (s : State) {l : Label} (hl : l ≠ .A1) : (s.finishLabel l).diags = s.diags := by
  cases l
  case A1 => exact absurd rfl hl
  all_goals rfl

/-- R104, R206: only a wait that has reached its bound reports. -/
theorem runLabel_diags {s t : State} (hwait : s.seq = .A1 → s.waitExhausted = false) (h : runLabel s = .next t) :
    t.diags = s.diags := by
  by_cases hs : s.seq = .A1
  · have hp : s.pollN ≠ s.params.pollBound := ne_of_beq_false (hwait hs)
    cases hmet : waitMet s.dir s.statusAnswer
    · cases (runLabel_A1_again hs hp hmet).symm.trans h; rfl
    · cases (runLabel_A1_met hs hp hmet).symm.trans h; rfl
  · obtain ⟨u, hu, ht⟩ := andThen_eq_next h
    cases ht
    exact (u.finishLabel_diags hs).trans (execAll_diags hu)

/-- R206: RESET and an acceptance report nothing. -/
theorem blockTurn_diags {s t : State}
    (hwait : isQuiescent s.mode = false → s.seq = .A1 → s.waitExhausted = false) (h : blockTurn s = .next t) :
    t.diags = s.diags := by
  obtain ⟨-, rfl⟩ | ⟨-, ⟨hb, hl⟩ | ⟨-, -, rfl | rfl⟩ | ⟨-, -, rfl | rfl⟩ | ⟨-, -, -, rfl⟩⟩ := blockTurn_cases h
  case inr.inl => exact runLabel_diags (hwait hb) hl
  all_goals rfl

/-- R206: of the agents' moves only the block's can report, at a wait that has reached its bound. -/
theorem step_diags {s t : State}
    (hwait : isQuiescent s.mode = false → s.seq = .A1 → s.waitExhausted = false) (h : step s = .next t) :
    t.diags = s.diags := by
  obtain ⟨rest, hturn⟩ | ⟨_, _, _, _, rfl⟩ := step_block_or_lines h
  · exact blockTurn_diags (s := { s with schedule := rest }) hwait hturn
  · rfl

/-- R206: with no wait degraded the run reports nothing. -/
theorem visits_diags {s t : State} (h : PNoDegrade s) (ht : Visits s t) : t.diags = s.diags := by
  obtain ⟨k, hk⟩ := ht
  exact runSteps_induction (P := fun t => t.diags = s.diags) rfl
    (fun i u _ _ hu hdiags hstep => (step_diags (h u ⟨i, hu⟩) hstep).trans hdiags) hk

/-! ## `P_NO_LOSS` and `P_ALIGNED`: the events are the device's packets -/

/-- R159: leaving out whole packets' bytes leaves out those packets. -/
theorem packetsOf_drop (q : Nat) (bs : List Byte) : packetsOf (bs.drop (3 * q)) = (packetsOf bs).drop q := by
  by_cases hq : 3 * q ≤ bs.length
  · have hlen : (bs.take (3 * q)).length = 3 * q := List.length_take_of_le hq
    have hbs : packetsOf bs = packetsOf (bs.take (3 * q)) ++ packetsOf (bs.drop (3 * q)) := by
      rw [← packetsOf_append _ (by rw [hlen]; exact Nat.mul_mod_right 3 q), List.take_append_drop]
    rw [hbs, List.drop_left' (by rw [length_packetsOf, hlen]; exact Nat.mul_div_cancel_left q (by decide))]
  · rw [List.drop_eq_nil_of_le (by omega), List.drop_eq_nil_of_le (by rw [length_packetsOf]; omega)]
    rfl

/-- No step changes a parameter (R10). -/
theorem runSteps_params {k : Nat} {s t : State} (h : runSteps k s = .next t) : t.params = s.params :=
  runSteps_induction (P := fun t => t.params = s.params) rfl
    (fun _ u v _ _ hparams hstep => (oneAccessAStep u v hstep).1.trans hparams) h

/-- R159: a run that stays in `ARMED` and `SERVICE` keeps the shape of a state and framing. -/
theorem runSteps_framed {k : Nat} {before : List Obs} {s t : State} (hc : Coherent s) (h : Framed before s)
    (hserving : ∀ i u, i ≤ k → runSteps i s = .next u → u.mode = .armed ∨ u.mode = .service)
    (hrun : runSteps k s = .next t) : Coherent t ∧ Framed before t := by
  refine runSteps_induction (P := fun t => Coherent t ∧ Framed before t) ⟨hc, h⟩
    (fun i u v hi hu ⟨hcu, hfu⟩ hstep => ?_) hrun
  have hv : v.mode = .armed ∨ v.mode = .service := hserving (i + 1) v hi ((runSteps_concat hu).trans hstep)
  exact ⟨coherenceKept u v hcu hstep, framingKept before u v hcu hfu hstep hv⟩

/-- R159, R226: since INIT ended, between invocations, the events are the packets of the bytes consumed. -/
theorem eventsOf_traceSince {k : Nat} {s t : State} (hc : Coherent s) (hcnt : s.params.cntW = none)
    (hinit : JustInitialised s)
    (hserving : ∀ i u, i ≤ k → runSteps i s = .next u → u.mode = .armed ∨ u.mode = .service)
    (hrun : runSteps k s = .next t) (harmed : t.mode = .armed) :
    eventsOf (traceSince s t) = packetsOf (consumedSince s t) := by
  have hphase : s.phase = 0 := by rw [State.phase, hinit.zeroed]; rfl
  obtain ⟨-, hframed⟩ := runSteps_framed hc (framingStartsAtPhaseZero s hinit.armed hcnt hphase) hserving hrun
  obtain ⟨since, htrace, hevents, -⟩ := framingBetweenInvocations s.trace t hframed harmed
  have hsince : traceSince s t = since := by rw [traceSince, htrace, List.drop_left]
  rw [consumedSince, hsince, hevents, runSteps_params hrun]

/-- R225, R226: with no byte lost and the first one consumed the first of a packet, the events are the packets sent after
INIT. -/
theorem eventsOf_traceSince_device {d : Device} {k : Nat} {s t : State} (hc : Coherent s) (hcnt : s.params.cntW = none)
    (hloss : PNoLoss d s k) (haligned : PAligned d s k) (hrun : runSteps k s = .next t) (harmed : t.mode = .armed) :
    eventsOf (traceSince s t) = (packetsOf d.stream).drop (d.sentBefore / 3) := by
  have hwhole : 3 * (d.sentBefore / 3) = d.sentBefore :=
    Nat.mul_div_cancel' (Nat.dvd_of_mod_eq_zero (hloss.noneSkipped ▸ haligned.packetStart))
  calc eventsOf (traceSince s t)
    _ = packetsOf (consumedSince s t) := eventsOf_traceSince hc hcnt hloss.afterInit hloss.serving hrun harmed
    _ = packetsOf (d.stream.drop (3 * (d.sentBefore / 3))) := by rw [hloss.consumed t hrun, hwhole]
    _ = (packetsOf d.stream).drop (d.sentBefore / 3) := packetsOf_drop _ _

/-- Settles O60, one premise after another. -/
theorem namedPremisesGiveTheirClaims : Obligations.NamedPremisesGiveTheirClaims :=
  fun _ hc =>
    ⟨runSteps_next, fun hm hu hack => InInit.reachesArmed ⟨hc, hm, hu⟩ hack, fun hdegrade _ => visits_diags hdegrade,
      fun hcnt _ _ _ hloss haligned => eventsOf_traceSince_device hc hcnt hloss haligned⟩

end Sys2Proof.Machine
end
